-- ==== Sys2Proof/Word.lean ====
section
/-! DEFINITION. The two word types of the machine (00_scope R9): bytes and 16-bit words. -/

namespace Sys2Proof

/-- A byte: a general register, a byte of memory, an immediate (R9, R18). -/
abbrev Byte := BitVec 8

/-- A 16-bit word: a register pair, SP, PC, an address (R9, R18). -/
abbrev Word := BitVec 16

end Sys2Proof
end

