-- ==== Sys2Proof/Config.lean ====
section
/-! DEFINITION. The parameters of the spec (00_scope R10 to R17): what the host and the cartridge fix, as plain data,
and the free values, which have no body, so that no proof can rest on what they are. -/

namespace Sys2Proof

/-- DAA_CARRY_RULE (R15): how DAA forms C from the adjusted 16-bit intermediate. -/
inductive DaaCarryRule where
  | bit8
  | sticky
deriving DecidableEq, Repr, Inhabited

/-- A call the memory bank controller makes into the core (R13, 20_memory R52, R53). -/
inductive BankHook where
  | selectRomBank (n : Nat)
  | selectRamBank (n : Nat)
deriving DecidableEq, Repr

/-- One row of MBC_WRITE (R13) as a table: in the controller's own state `state`, a write of a value whose bits under
`mask` are those of `value` to an address from `first` to `last` makes the calls `hooks`, in order, and leaves the
controller in the state `next`. DESIGN CHOICE (log 3): the host function is data, so that a state stays plain data. -/
structure MbcRule where
  state : Nat
  first : Word
  last : Word
  mask : Byte
  value : Byte
  next : Nat
  hooks : List BankHook
deriving DecidableEq, Repr

/-- What the host and the cartridge fix for a run; no step writes it. DESIGN CHOICE (log 2): the parameters are data
of the state, so that a statement about every state holds for every choice of them. -/
structure Config where
  /-- BATCH (R10). -/
  batch : Nat
  /-- ROM_BANKS (R11). -/
  romBanks : Nat
  /-- RAM_BANKS (R12). -/
  ramBanks : Nat
  /-- DAA_CARRY_RULE (R15). -/
  daaCarryRule : DaaCarryRule
  /-- MBC_WRITE (R13). -/
  mbcRules : List MbcRule
deriving DecidableEq, Repr

/-- ADD16_HALF_CARRY (R14, 92 D31): the H flag of `ADD HL,rr` from the operands and the result. A free value (log 4). -/
opaque Config.add16HalfCarry (a b r : Word) : Bool

/-- The DAA_CARRY_RULE of a machine right after reset (R15, 92 D32): OPEN, a free value (log 5). -/
opaque Config.freeDaaCarryRule : DaaCarryRule

/-- KEYS at the `n`-th input refresh (R17, 60 R241), where the state lists no host input: a free value (log 6). -/
opaque Config.freeKeys (n : Nat) : Byte

/-- A hook call the caller may make: `n < ROM_BANKS`, and `n < RAM_BANKS` unless there is no RAM (R52, R53). -/
def Config.hookInRange (c : Config) : BankHook → Bool
  | .selectRomBank n => decide (n < c.romBanks)
  | .selectRamBank n => decide (c.ramBanks = 0) || decide (n < c.ramBanks)

/-- The premises the spec puts on its parameters: BATCH positive (R10), ROM_BANKS ≥ 2 (R11), and every hook call of the
bank controller in range (R52, R53). -/
def Config.wf (c : Config) : Bool :=
  decide (0 < c.batch) && decide (2 ≤ c.romBanks) && c.mbcRules.all fun r => r.hooks.all c.hookInRange

end Sys2Proof
end

