-- ==== Sys2Proof/Machine/Memory.lean ====
section
/-! DEFINITION. The backing buffers of the bus (20_memory R47) as sorted lists of (offset, byte) pairs in one canonical
form, and what an unlisted offset of each reads as. -/

namespace Sys2Proof.Machine

/-- The fixed backing buffers (R47). The disabled area is no buffer: it stores nothing (R51). -/
inductive Buffer where
  | rom
  | vram
  | sram
  | wram
  | oam
  | io
deriving DecidableEq, Repr

/-- One buffer's bytes: pairs of an offset into the buffer and the byte there, offsets strictly rising, no pair equal
to what an unlisted offset reads as. -/
abbrev Memory := List Host.Cell

/-- The reset column of the I/O register map (10_state R35); every byte it does not name is 0x00 there. High RAM
(0xFF80 to 0xFFFE) is INIT_MEM: 0x00 is a DESIGN CHOICE (log 1). -/
def ioReset (off : Nat) : Byte :=
  match off with
  | 0x00 => 0xCF
  | 0x10 => 0x80
  | 0x11 => 0xBF
  | 0x12 => 0xF3
  | 0x14 => 0xBF
  | 0x16 => 0x3F
  | 0x19 => 0xBF
  | 0x1A => 0x7F
  | 0x1B => 0xFF
  | 0x1C => 0x9F
  | 0x1E => 0xBF
  | 0x20 => 0xFF
  | 0x23 => 0xBF
  | 0x24 => 0x77
  | 0x25 => 0xF3
  | 0x26 => 0xF1
  | 0x40 => 0x91
  | 0x41 => 0x06
  | 0x47 => 0xFC
  | 0x48 => 0xFF
  | 0x49 => 0xFF
  | _ => 0x00

/-- What an unlisted offset reads as: the reset contents of the I/O page (R35, R45); 0x00 in every other buffer, where
the contents are the parameters ROM_IMAGE and INIT_MEM (R11, R16). DESIGN CHOICE (log 1), unsafe. -/
def unlisted (b : Buffer) (off : Nat) : Byte :=
  match b with
  | .io => ioReset off
  | .rom => 0
  | .vram => 0
  | .sram => 0
  | .wram => 0
  | .oam => 0

/-- The byte at an offset of a buffer. -/
def Memory.read (b : Buffer) : Memory → Nat → Byte
  | [], off => unlisted b off
  | (k, v) :: m, off => if off < k then unlisted b off else if off = k then v else Memory.read b m off

/-- The pairs after offset `off`. In a canonical list whose first offset is above `off` this is the list itself. -/
def Memory.after (off : Nat) : Memory → Memory
  | [] => []
  | (k, v) :: m => if k ≤ off then Memory.after off m else (k, v) :: m

/-- The pair of an offset and its byte in front of `m`, left out where it says what an unlisted offset reads as. -/
def Memory.cons (b : Buffer) (off : Nat) (v : Byte) (m : Memory) : Memory :=
  if v = unlisted b off then m else (off, v) :: m

/-- A buffer with the byte at one offset written. -/
def Memory.write (b : Buffer) : Memory → Nat → Byte → Memory
  | [], off, v => Memory.cons b off v []
  | (k, w) :: m, off, v =>
    if off < k then Memory.cons b off v ((k, w) :: m)
    else if off = k then Memory.cons b off v (Memory.after off m)
    else (k, w) :: Memory.write b m off v

/-- Offsets at least `low`, strictly rising, and no pair equal to what an unlisted offset reads as. -/
def Memory.canonicalFrom (b : Buffer) : Nat → Memory → Bool
  | _, [] => true
  | low, (k, v) :: m => decide (low ≤ k) && decide (v ≠ unlisted b k) && Memory.canonicalFrom b (k + 1) m

/-- The canonical form: equal memories are equal lists. -/
def Memory.wf (b : Buffer) (m : Memory) : Bool := Memory.canonicalFrom b 0 m

end Sys2Proof.Machine
end

