-- ==== Sys2Proof/Machine/State.lean ====
section
/-! DEFINITION. The state of the machine as plain data: everything 10_state.md names, the parameters of 00_scope.md, and
the interface to the host (60_exceptions R243); why a step can stop; the state after reset (70 R250). -/

namespace Sys2Proof.Machine

/-- The states of the PPU timing machine (10_state R39). -/
inductive PpuState where
  | oam
  | vram
  | hblank
  | vblank
  | lcdOff
deriving DecidableEq, Repr

/-- What IllegalOpcode records (60 R207): the address of the opcode and the opcode. -/
structure IllegalOpcode where
  pc : Word
  byte : Byte
deriving DecidableEq, Repr

/-- A call the core makes to the host (60 R243). -/
inductive HostEvent where
  /-- MBC_WRITE(addr, value): a bus write below 0x8000 (R57). -/
  | mbcWrite (addr : Word) (value : Byte)
  /-- RenderLine(LY): the start of the H-blank of a visible line (R235). -/
  | renderLine (ly : Byte)
  /-- FrameComplete(): V-blank entry (R236). -/
  | frameComplete
  /-- BlankFrame(): LCD-off entry (R238). -/
  | blankFrame
  /-- The fault report: the pair (pc, byte) (R207). -/
  | faultReport (pc : Word) (byte : Byte)
deriving DecidableEq, Repr

/-- Why the machine stops. -/
inductive Fault where
  /-- Raised by `step` in every state whose `fault` field is set: the machine stopped for good at an undefined opcode
  (R43, R203, R207). Safe: the spec gives no later state. -/
  | illegalOpcode (pc : Word) (byte : Byte)
  /-- Raised by `step` at the top of an iteration at which the host asks the run to end (R206): the end of the run, no
  failure. Safe: the state before it is the run's final state. -/
  | hostExit
deriving DecidableEq, Repr

/-- What has no meaning. -/
inductive Refusal where
  /-- Raised by `exec` for an instruction without a meaning: none is left in this model. Safe. -/
  | notModelled (mnemonic : String)
  /-- Raised by a bus write below 0x8000 whose bank controller calls selectRomBank(n) with n ≥ ROM_BANKS (R52). Safe. -/
  | romBankOutOfRange (n : Nat)
  /-- Raised by a bus write below 0x8000 whose bank controller calls selectRamBank(n) with n ≥ RAM_BANKS > 0 (R53).
  Safe. -/
  | ramBankOutOfRange (n : Nat)
  /-- Raised by `powerOn` for a cartridge with ROM_BANKS < 2 or an image of another size than ROM_BANKS × 16384 (R248).
  Safe. -/
  | badCartridge
deriving DecidableEq, Repr

/-- The state of the machine. -/
structure State where
  /-- The eight general registers (R20); F holds Z N H C in bits 7:4 (R23). -/
  a : Byte
  f : Byte
  b : Byte
  c : Byte
  d : Byte
  e : Byte
  h : Byte
  l : Byte
  /-- Stack pointer (R26). -/
  sp : Word
  /-- The address of the next byte the CPU fetches (R27). -/
  pc : Word
  /-- The master cycle counter (R28). -/
  clocks : Nat
  /-- Interrupt master enable (R32). -/
  ime : Bool
  /-- The HALT latch (R29). -/
  halted : Bool
  /-- The STOP latch (R30). -/
  stopped : Bool
  /-- The halt-bug latch (R31). -/
  haltBug : Bool
  /-- None, or the recorded IllegalOpcode (R43). -/
  fault : Option IllegalOpcode
  /-- The backing buffers of the bus (R47). -/
  rom : Memory
  vram : Memory
  sram : Memory
  wram : Memory
  oam : Memory
  io : Memory
  /-- The ROM bank seen at 0x4000-0x7FFF (R41). -/
  romBank : Nat
  /-- The external RAM bank seen at 0xA000-0xBFFF (R41). -/
  ramBank : Nat
  /-- `ppu.state` (R39). LY and STAT[2:0] are bytes of `io`. -/
  ppu : PpuState
  /-- `ppu.nextTick` (R39). -/
  nextTick : Nat
  /-- The cycle at which the divider was last zeroed (R40). -/
  divBase : Nat
  /-- The cycle at which the TIMA tick sequence was last anchored (R40). -/
  timerBase : Nat
  /-- The TIMA ticks already applied since `timerBase` (R40). -/
  timerTicks : Nat
  /-- The last KEYS value the host supplied (R42). -/
  keys : Byte
  /-- The model's own: the slot of the batch the next step runs, 0 at the top of an iteration (R83; log 8). -/
  slot : Nat
  /-- The model's own: `pc0` of the instruction being executed (R82; log 9). -/
  opPc : Word
  /-- The parameters of the spec; no step writes them (log 2). -/
  cfg : Config
  /-- The bank controller's own state, which only MBC_WRITE reads (R13; log 3). -/
  mbcState : Nat
  /-- The KEYS values the host will supply at the coming input refreshes (R241; log 6). -/
  keysIn : List Byte
  /-- The number of input refreshes so far (R241; log 6). -/
  keysSeen : Nat
  /-- The iterations until the host asks the run to end; none: it never does (R206; log 7). -/
  exitIn : Option Nat
  /-- The calls made to the host, newest first (R243; log 12). -/
  hostOut : List HostEvent
deriving DecidableEq, Repr

/-- What one operation can answer: a next state, or why there is none. -/
abbrev Result := Host.Outcome State Fault Refusal

/-- The state after reset (R248, R250) of a machine with the parameters `cfg`, the ROM image `rom` (R11) and the
initial contents INIT_MEM of the RAM buffers (R16); `io` lists the high RAM bytes of INIT_MEM. -/
def State.resetWith (cfg : Config) (rom vram sram wram oam io : Memory) : State where
  a := 0x01
  f := 0xB0
  b := 0x00
  c := 0x13
  d := 0x00
  e := 0xD8
  h := 0x01
  l := 0x4D
  sp := 0xFFFE
  pc := 0x0100
  clocks := 0
  ime := false
  halted := false
  stopped := false
  haltBug := false
  fault := none
  rom := rom
  vram := vram
  sram := sram
  wram := wram
  oam := oam
  io := io
  romBank := 1
  ramBank := 0
  ppu := .oam
  nextTick := 80
  divBase := 0
  timerBase := 0
  timerTicks := 0
  keys := 0
  slot := 0
  opPc := 0x0100
  cfg := cfg
  mbcState := 0
  keysIn := []
  keysSeen := 0
  exitIn := none
  hostOut := []

/-- The parameters of `State.reset`: BATCH 24 (R10's default), the smallest cartridge of R11 without external RAM, and a
bank controller that does nothing. DESIGN CHOICE (log 2, log 3), unsafe; DAA_CARRY_RULE stays free (log 5). -/
def State.resetConfig : Config where
  batch := 24
  romBanks := 2
  ramBanks := 0
  daaCarryRule := Config.freeDaaCarryRule
  mbcRules := []

/-- The machine right after reset (R250), with nothing listed in memory: no ROM image and no INIT_MEM is placed (log 1).
`powerOn` gives the state after reset for any cartridge and any INIT_MEM. -/
def State.reset : State := State.resetWith State.resetConfig [] [] [] [] [] []

end Sys2Proof.Machine
end

