-- ==== Sys2Proof/Machine/HostCalls.lean ====
section
/-! DEFINITION. The calls between the core and the host outside the bus (60_exceptions R241, R243). -/

namespace Sys2Proof.Machine

/-- A call to the host (R243), recorded newest first (log 12). -/
def State.emit (s : State) (ev : HostEvent) : State := { s with hostOut := ev :: s.hostOut }

/-- The KEYS value the host supplies at this refresh: the next listed input, or a free value where none is listed
(log 6). -/
def State.nextKeys (s : State) : Byte :=
  match s.keysIn with
  | [] => Config.freeKeys s.keysSeen
  | k :: _ => k

/-- InputRefresh() (R241): `keys <- KEYS`, and a pressed key ends STOP. -/
def State.inputRefresh (s : State) : State :=
  { s with
    keys := s.nextKeys
    keysIn := s.keysIn.tail
    keysSeen := s.keysSeen + 1
    stopped := s.stopped && decide (s.nextKeys = 0) }

end Sys2Proof.Machine
end

