-- ==== Sys2Proof/Machine/Bits.lean ====
section
/-! DEFINITION. The bit-field, byte-order and sign-extension helpers of the notation (00_scope R18). -/

namespace Sys2Proof

/-- `v[15:8]`. -/
def hiByte (w : Word) : Byte := w.extractLsb' 8 8

/-- `v[7:0]`. -/
def loByte (w : Word) : Byte := w.extractLsb' 0 8

/-- `hi:lo`, the high part first (R18). -/
def word (hi lo : Byte) : Word := hi ++ lo

/-- `sext_16(e)` (R18). -/
def sext16 (e : Byte) : Word := e.signExtend 16

/-- `0xFF00 + n`, the address of offset `n` of the I/O page (R80). -/
def ioAddress (n : Byte) : Word := word 0xFF n

/-- A byte with bits 7, 6, 5, 4 and bits 3:0 given: the layout of F (10_state R23, R24). -/
def packFlags (z n h c : Bool) (low : BitVec 4) : Byte :=
  BitVec.ofBool z ++ BitVec.ofBool n ++ BitVec.ofBool h ++ BitVec.ofBool c ++ low

/-- `v` with bit `k` set to `b`, every other bit kept. -/
def withBit (v : Byte) (k : Nat) (b : Bool) : Byte :=
  if b then v ||| (1#8 <<< k) else v &&& ~~~(1#8 <<< k)

end Sys2Proof
end

