-- ==== Sys2Proof/Machine/Io.lean ====
section
/-! DEFINITION. The bytes of the I/O page under their names (10_state R35 to R38), and raising an interrupt (60 R211). -/

namespace Sys2Proof.Machine

/-- `io[o]`, with no side effect (R34). -/
def State.ioByte (s : State) (o : Nat) : Byte := Memory.read .io s.io o

/-- `io[o] <- v`, with no side effect (R34). -/
def State.setIo (s : State) (o : Nat) (v : Byte) : State := { s with io := Memory.write .io s.io o v }

/-- P1 (0xFF00). -/
def State.p1 (s : State) : Byte := s.ioByte 0x00
/-- TIMA (0xFF05). -/
def State.tima (s : State) : Byte := s.ioByte 0x05
/-- TMA (0xFF06). -/
def State.tma (s : State) : Byte := s.ioByte 0x06
/-- TAC (0xFF07). -/
def State.tac (s : State) : Byte := s.ioByte 0x07
/-- IF (0xFF0F). -/
def State.ifReg (s : State) : Byte := s.ioByte 0x0F
/-- LCDC (0xFF40). -/
def State.lcdc (s : State) : Byte := s.ioByte 0x40
/-- STAT (0xFF41). -/
def State.stat (s : State) : Byte := s.ioByte 0x41
/-- LY (0xFF44). -/
def State.ly (s : State) : Byte := s.ioByte 0x44
/-- LYC (0xFF45). -/
def State.lyc (s : State) : Byte := s.ioByte 0x45
/-- IE (0xFFFF). -/
def State.ie (s : State) : Byte := s.ioByte 0xFF

/-- An interrupt source's event: `IF <- IF OR (1 << k)` (R211). -/
def State.raiseInterrupt (s : State) (k : Nat) : State := s.setIo 0x0F (withBit s.ifReg k true)

/-- `raiseInterrupt` where a condition holds. -/
def State.raiseInterruptIf (s : State) (cond : Bool) (k : Nat) : State := if cond then s.raiseInterrupt k else s

/-- `pending = IE AND IF AND 0x1F` (R212). -/
def State.pending (s : State) : Byte := s.ie &&& s.ifReg &&& 0x1F

end Sys2Proof.Machine
end

