-- ==== Sys2Proof/Machine/Ppu.lean ====
section
/-! DEFINITION. The PPU timing state machine (60_exceptions R229 to R238). It does no rendering (00_scope R7). -/

namespace Sys2Proof.Machine

/-- The value of STAT[1:0] in a state of the machine (10_state R36, 60 R238). -/
def PpuState.mode : PpuState → Byte
  | .hblank => 0
  | .vblank => 1
  | .oam => 2
  | .vram => 3
  | .lcdOff => 0

/-- `ppu.state <- p`, `Mode <- m` for the mode of `p`, and `ppu.nextTick <- ppu.nextTick + n` (R229). -/
def State.enterPpu (s : State) (p : PpuState) (n : Nat) : State :=
  { s.setIo 0x41 ((s.stat &&& 0xFC) ||| p.mode) with ppu := p, nextTick := s.nextTick + n }

/-- Whether STAT bit `k` is 1 (R36). -/
def State.statBit (s : State) (k : Nat) : Bool := s.stat.getLsbD k

/-- SetLY(v) (R230): the LY==LYC comparator, which runs only here. -/
def State.setLy (s : State) (v : Byte) : State :=
  let hit := decide (v = s.lyc)
  let ignored := s.statBit 4 && (decide (v = 0) || decide (0x90 < v.toNat))
  ((s.setIo 0x44 v).setIo 0x41 (withBit s.stat 2 hit)).raiseInterruptIf (hit && s.statBit 6 && !ignored) 1

/-- The STAT check on entering H-blank (R231). -/
def State.hblankCheck (s : State) : State :=
  s.raiseInterruptIf (s.statBit 3 && !(s.statBit 6 && decide (s.ly = s.lyc))) 1

/-- The interrupts on entering V-blank (R232). -/
def State.vblankInterrupts (s : State) : State :=
  (s.raiseInterrupt 0).raiseInterruptIf
    (s.statBit 4 && !s.statBit 3 && !(s.statBit 6 && decide (s.lyc ≠ 144))) 1

/-- The STAT check on entering OAM scan with the previous line `prev`, none where it is undefined (R233). -/
def State.oamCheck (s : State) (prev : Option Byte) : State :=
  s.raiseInterruptIf (s.statBit 5 && !s.statBit 3 && !(s.statBit 6 && decide (prev = some s.lyc))) 1

/-- LCDC bit 7, the display enable (10_state R38). -/
def State.displayOn (s : State) : Bool := s.lcdc.getLsbD 7

/-- State OAM at its deadline (R234). -/
def State.oamDeadline (s : State) : State := s.enterPpu .vram 172

/-- State VRAM at its deadline (R235). -/
def State.vramDeadline (s : State) : State := ((s.enterPpu .hblank 204).emit (.renderLine s.ly)).hblankCheck

/-- State HBLANK at its deadline (R236). -/
def State.hblankDeadline (s : State) : State :=
  let line := s.ly + 1
  let s1 := s.setLy line
  if line = 144 then (((s1.enterPpu .vblank 456).vblankInterrupts).emit .frameComplete).inputRefresh
  else (s1.enterPpu .oam 80).oamCheck (some (line - 1))

/-- Entering LCD off (R238). -/
def State.enterLcdOff (s : State) : State := (s.enterPpu .lcdOff 456).emit .blankFrame

/-- `ppu.nextTick <- ppu.nextTick + n` with the state kept. -/
def State.extendPpu (s : State) (n : Nat) : State := { s with nextTick := s.nextTick + n }

/-- State VBLANK at its deadline (R237). -/
def State.vblankDeadline (s : State) : State :=
  if s.ly = 0 then
    if s.displayOn then (s.enterPpu .oam 80).oamCheck (some 0x99) else s.enterLcdOff
  else if s.ly = 152 then (s.setLy 153).extendPpu 56
  else if s.ly = 153 then (s.setLy 0).extendPpu 400
  else (s.setLy (s.ly + 1)).extendPpu 456

/-- The LCD-off heartbeat (R238). -/
def State.lcdOffDeadline (s : State) : State :=
  let s1 := s.inputRefresh
  if s1.displayOn then (((s1.enterPpu .oam 0).setLy 0).extendPpu 80).oamCheck none
  else s1.extendPpu 456

/-- PpuTransition() (R229). -/
def State.ppuTransition (s : State) : State :=
  match s.ppu with
  | .oam => s.oamDeadline
  | .vram => s.vramDeadline
  | .hblank => s.hblankDeadline
  | .vblank => s.vblankDeadline
  | .lcdOff => s.lcdOffDeadline

/-- The loop of PpuStep with at most `n` transitions. -/
def ppuLoop : Nat → State → State
  | 0, s => s
  | n + 1, s => if s.nextTick ≤ s.clocks then ppuLoop n s.ppuTransition else s

/-- PpuStep() (R229): every transition whose deadline has passed, in order. Each adds at least one cycle to the deadline
(56 at the least), so this count of transitions always suffices (log 18). -/
def State.ppuStep (s : State) : State := ppuLoop (s.clocks + 1 - s.nextTick) s

end Sys2Proof.Machine
end

