-- ==== Sys2Proof/Machine/Timer.lean ====
section
/-! DEFINITION. The timer unit (60_exceptions R220 to R228). -/

namespace Sys2Proof.Machine

/-- The right shift of the timer's cycle count that TAC[1:0] selects (10_state R37). -/
def timerShift (tac : Byte) : Nat :=
  match tac.toNat % 4 with
  | 0 => 10
  | 1 => 4
  | 2 => 6
  | _ => 8

/-- TAC bit 2, the timer enable (R37). -/
def timerEnabled (tac : Byte) : Bool := tac.getLsbD 2

/-- `n` ticks of TIMA under the modulo `tma`, one at a time: the value after them, and whether any of them overflowed
(R222). -/
def timerTicksFrom (tma : Byte) : Nat → Byte → Byte × Bool
  | 0, tima => (tima, false)
  | n + 1, tima => if tima = 0xFF then ((timerTicksFrom tma n tma).1, true) else timerTicksFrom tma n (tima + 1)

/-- The ticks due since `timerBase` (R222). -/
def State.timerTarget (s : State) : Nat := (s.clocks - s.timerBase) >>> timerShift s.tac

/-- TimerCatchUp() (R222): the ticks from `timerTicks` to the target are applied to TIMA; an overflow reloads TMA and
raises the timer interrupt. -/
def State.catchUp (s : State) : State :=
  if timerEnabled s.tac && decide (s.timerTicks < s.timerTarget) then
    let r := timerTicksFrom s.tma (s.timerTarget - s.timerTicks) s.tima
    { ((s.setIo 0x05 r.1).raiseInterruptIf r.2 2) with timerTicks := s.timerTarget }
  else s

/-- The read of DIV (R220). -/
def State.divider (s : State) : Byte := BitVec.ofNat 8 ((s.clocks - s.divBase) >>> 8)

/-- The write of DIV (R221): the value written is ignored. -/
def State.writeDiv (s : State) : State := { s.catchUp with divBase := s.clocks }

/-- The write of TIMA (R224). -/
def State.writeTima (s : State) (v : Byte) : State := s.catchUp.setIo 0x05 v

/-- The write of TMA (R225). -/
def State.writeTma (s : State) (v : Byte) : State := s.catchUp.setIo 0x06 v

/-- The write of TAC (R226): caught up under the old TAC, then re-anchored. -/
def State.writeTac (s : State) (v : Byte) : State :=
  { s.catchUp.setIo 0x07 v with timerBase := s.clocks, timerTicks := 0 }

/-- TimerStep() (R227). -/
def State.timerStep (s : State) : State := s.catchUp

/-- TimerNextOverflow() (R228); none is infinity. -/
def State.timerNextOverflow (s : State) : Option Nat :=
  if timerEnabled s.tac then
    some (s.timerBase + ((s.timerTicks + 256 - s.tima.toNat) <<< timerShift s.tac))
  else none

end Sys2Proof.Machine
end

