-- ==== Sys2Proof/Machine/Ops.lean ====
section
/-! DEFINITION. The named operations of the machine: sequencing, the bus (20_memory), the stack, the memory bank
controller, charging cycles, the one synchronous fault, interrupt service and the return from it (60_exceptions). -/

namespace Sys2Proof.Machine

/-- `k` on the next state; a fault or a refusal stops. -/
def seq (r : Result) (k : State → Result) : Result :=
  match r with
  | .next s => k s
  | .fault f => .fault f
  | .refused e => .refused e

/-- `clocks += n` (00_scope R18), after the effects of an instruction (10_state R28). -/
def State.tick (s : State) (n : Nat) : State := { s with clocks := s.clocks + n }

/-! ## Buffers and the page table -/

/-- A backing buffer (20_memory R47). -/
def State.buffer (s : State) : Buffer → Memory
  | .rom => s.rom
  | .vram => s.vram
  | .sram => s.sram
  | .wram => s.wram
  | .oam => s.oam
  | .io => s.io

/-- The state with a backing buffer replaced. -/
def State.setBuffer (s : State) (b : Buffer) (m : Memory) : State :=
  match b with
  | .rom => { s with rom := m }
  | .vram => { s with vram := m }
  | .sram => { s with sram := m }
  | .wram => { s with wram := m }
  | .oam => { s with oam := m }
  | .io => { s with io := m }

/-- The place an address names (R48): a byte of a buffer, or the disabled area (R51). -/
inductive Place where
  | disabled
  | cell (b : Buffer) (off : Nat)
deriving DecidableEq, Repr

/-- The page table (R48), with `addr = p:o` written as one number. -/
def State.place (s : State) (a : Word) : Place :=
  let n := a.toNat
  if n < 0x4000 then .cell .rom n
  else if n < 0x8000 then .cell .rom (s.romBank * 16384 + (n - 0x4000))
  else if n < 0xA000 then .cell .vram (n - 0x8000)
  else if n < 0xC000 then
    if s.cfg.ramBanks = 0 then .disabled else .cell .sram (s.ramBank * 8192 + (n - 0xA000))
  else if n < 0xE000 then .cell .wram (n - 0xC000)
  else if n < 0xFE00 then .cell .wram (n - 0xE000)
  else if n < 0xFF00 then .cell .oam (n - 0xFE00)
  else .cell .io (n - 0xFF00)

/-- The byte at a place; the disabled area reads 0xFF (R51). -/
def State.readPlace (s : State) : Place → Byte
  | .disabled => 0xFF
  | .cell b off => Memory.read b (s.buffer b) off

/-- The byte at a place written; the disabled area discards it (R51). -/
def State.writePlace (s : State) (p : Place) (v : Byte) : State :=
  match p with
  | .disabled => s
  | .cell b off => s.setBuffer b (Memory.write b (s.buffer b) off v)

/-- RawRead(a) (R71): the byte the page table names, with no special read and no side effect. -/
def State.rawRead (s : State) (a : Word) : Byte := s.readPlace (s.place a)

/-! ## Special accesses -/

/-- Whether an address is in the I/O page, page 0xFF. -/
def inIoPage (a : Word) : Bool := hiByte a == 0xFF

/-- Bit 0 of `specialMap` (R54). -/
def specialRead (o : Byte) : Bool := o == 0x00 || o == 0x04 || o == 0x05

/-- Bit 1 of `specialMap` (R54). -/
def specialWrite (o : Byte) : Bool :=
  o == 0x04 || o == 0x05 || o == 0x06 || o == 0x07 || o == 0x0F || o == 0x40 || o == 0x41 || o == 0x44 ||
    o == 0x46 || o == 0x47 || o == 0x48 || o == 0x49 || o == 0xFF

/-- The read of P1 (R65). -/
def State.joypad (s : State) : Byte :=
  let sel := s.p1
  if sel.getLsbD 4 && sel.getLsbD 5 then 0xFF
  else
    let directions : Byte := if sel.getLsbD 4 then 0x0F else ~~~(s.keys &&& 0x0F)
    let buttons : Byte := if sel.getLsbD 5 then 0x0F else ~~~(s.keys >>> 4)
    0xC0 ||| (sel &&& 0x30) ||| (0x0F &&& directions &&& buttons)

/-- The value a special read answers (R55, R65; 60 R220, R223). -/
def State.specialReadValue (s : State) (o : Byte) : Byte :=
  if o == 0x00 then s.joypad else if o == 0x04 then s.divider else s.catchUp.tima

/-- The value `MemRead(a, 1)` answers (R55). -/
def State.loadByte (s : State) (a : Word) : Byte :=
  if inIoPage a && specialRead (loByte a) then s.specialReadValue (loByte a) else s.rawRead a

/-- The state after `MemRead(a, 1)`: only a read of TIMA has a side effect, the catch-up (R64, 60 R223). -/
def State.afterLoad (s : State) (a : Word) : State := if a == 0xFF05 then s.catchUp else s

/-- The first `n` bytes of the OAM DMA from page `v` (R71). -/
def dmaCopy (v : Byte) : Nat → State → State
  | 0, s => s
  | n + 1, s =>
    let s1 := dmaCopy v n s
    s1.writePlace (.cell .oam n) (s1.rawRead (word v (BitVec.ofNat 8 n)))

/-- The write of DMA (R71): the copy of 160 bytes completes inside the write. -/
def State.writeDma (s : State) (v : Byte) : State := dmaCopy v 160 (s.setIo 0x46 v)

/-- The write of STAT (R69): bits 2:0 are the PPU's. -/
def State.writeStat (s : State) (v : Byte) : State := s.setIo 0x41 ((v &&& 0xF8) ||| (s.stat &&& 0x07))

/-- SpecialWrite(o, v) (R66 to R72; 60 R221, R224 to R226). IF, IE, LCDC and the palettes are stored. -/
def State.specialStore (s : State) (o v : Byte) : State :=
  if o == 0x04 then s.writeDiv
  else if o == 0x05 then s.writeTima v
  else if o == 0x06 then s.writeTma v
  else if o == 0x07 then s.writeTac v
  else if o == 0x41 then s.writeStat v
  else if o == 0x44 then s
  else if o == 0x46 then s.writeDma v
  else s.setIo o.toNat v

/-! ## The memory bank controller -/

/-- The rule of MBC_WRITE that a write meets (00_scope R13; log 3). -/
def ruleMeets (r : MbcRule) (st : Nat) (a : Word) (v : Byte) : Bool :=
  decide (r.state = st) && decide (r.first.toNat ≤ a.toNat) && decide (a.toNat ≤ r.last.toNat) &&
    decide (v &&& r.mask = r.value &&& r.mask)

/-- A bank hook (20_memory R52, R53). -/
def State.bankHook (s : State) : BankHook → Result
  | .selectRomBank n => if n < s.cfg.romBanks then .next { s with romBank := n } else .refused (.romBankOutOfRange n)
  | .selectRamBank n =>
    if s.cfg.ramBanks = 0 then .next s
    else if n < s.cfg.ramBanks then .next { s with ramBank := n }
    else .refused (.ramBankOutOfRange n)

/-- Bank hooks in order. -/
def bankHooks : List BankHook → State → Result
  | [], s => .next s
  | k :: ks, s => seq (s.bankHook k) (bankHooks ks)

/-- MBC_WRITE(a, v) (R13, R57): the host sees the write, and the controller may call bank hooks. -/
def State.mbcWrite (s : State) (a : Word) (v : Byte) : Result :=
  match s.cfg.mbcRules.find? fun r => ruleMeets r s.mbcState a v with
  | none => .next (s.emit (.mbcWrite a v))
  | some r => bankHooks r.hooks { s.emit (.mbcWrite a v) with mbcState := r.next }

/-! ## The byte and word primitives -/

/-- `MemWrite(a, 1, v)` (R56). Tile-cache upkeep has no effect on any state (R58; log 19). -/
def State.store (s : State) (a : Word) (v : Byte) : Result :=
  if a.toNat < 0x8000 then s.mbcWrite a v
  else if inIoPage a && specialWrite (loByte a) then .next (s.specialStore (loByte a) v)
  else .next (s.writePlace (s.place a) v)

/-- `MemWrite(a, 2, v)` (R61): the low byte first. -/
def State.storeWord (s : State) (a : Word) (v : Word) : Result :=
  seq (s.store a (loByte v)) fun t => t.store (a + 1) (hiByte v)

/-- One half of a push: SP is decremented, then the byte is written at SP (R62). -/
def State.pushByte (s : State) (v : Byte) : Result := { s with sp := s.sp - 1 }.store (s.sp - 1) v

/-- `Push16(v)` (R62): the high byte first. -/
def State.push (s : State) (v : Word) : Result := seq (s.pushByte (hiByte v)) fun t => t.pushByte (loByte v)

/-- The state after one half of a pop: the byte at SP is read, then SP is incremented (R62). -/
def State.afterPopByte (s : State) : State := { s.afterLoad s.sp with sp := s.sp + 1 }

/-- The word `Pop16()` answers (R62). -/
def State.popValue (s : State) : Word := word (s.afterPopByte.loadByte s.afterPopByte.sp) (s.loadByte s.sp)

/-- The state after `Pop16()` (R62). -/
def State.afterPop (s : State) : State := s.afterPopByte.afterPopByte

/-- The state after `Fetch8()` (30_encoding R81); the byte is `s.loadByte s.pc`. -/
def State.afterFetch (s : State) : State :=
  let t := s.afterLoad s.pc
  if t.haltBug then { t with haltBug := false } else { t with pc := t.pc + 1 }

/-! ## Exceptions -/

/-- `raise IllegalOpcode(pc0, byte)` (45 R203, 60 R207, R209): the fault is recorded and reported to the host, and
nothing else changes. `step` answers the fault from then on. -/
def State.raiseIllegalOpcode (s : State) (byte : Byte) : State :=
  { s.emit (.faultReport s.opPc byte) with fault := some ⟨s.opPc, byte⟩ }

/-- The cause code of IllegalOpcode (R207). -/
def illegalOpcodeCode : Nat := 1

/-- The index of the lowest set bit of `pending`, 0 to 4 (R214, R216). -/
def lowestSource (pending : Byte) : Nat :=
  if pending.getLsbD 0 then 0
  else if pending.getLsbD 1 then 1
  else if pending.getLsbD 2 then 2
  else if pending.getLsbD 3 then 3
  else 4

/-- The vector of source `k` (R215). -/
def interruptVector (k : Nat) : Word := BitVec.ofNat 16 (0x0040 + 8 * k)

/-- Service of interrupt source `k` (R214, R217): the IF bit and IME are cleared, PC is pushed, PC takes the vector, and
20 cycles are charged. -/
def State.serviceInterrupt (s : State) (k : Nat) : Result :=
  seq ({ s.setIo 0x0F (withBit s.ifReg k false) with ime := false }.push s.pc) fun t =>
    .next ({ t with pc := interruptVector k }.tick 20)

/-- InterruptStep() (R213, R214): a pending interrupt wakes the CPU whatever IME is, and is serviced if IME is 1. -/
def State.interruptStep (s : State) : Result :=
  if s.pending = 0 then .next s
  else if s.ime then { s with halted := false }.serviceInterrupt (lowestSource s.pending)
  else .next { s with halted := false }

/-- A subroutine return: `PC <- Pop16()` (44 R194). -/
def State.returnToCaller (s : State) : State := { s.afterPop with pc := s.popValue }

/-- The return from an interrupt (44 R196, 60 R218): PC is popped and IME is set, at once. -/
def State.returnFromInterrupt (s : State) : State := { s.returnToCaller with ime := true }

end Sys2Proof.Machine
end

