-- ==== Sys2Proof/Syntax.lean ====
section
/-! DEFINITION. The instruction set as syntax: the operand fields (30_encoding R79), one constructor per row of
spec/opcode_table.json, and for each operand form the row that its operands select. A constructor spells its row's
mnemonic: `mhl` is the operand (HL), `mhli` (HL+), `mhld` (HL-), `mbc` (BC), `mde` (DE), `mnn` (nn), `mn` (n), `mc` (C),
`spe` SP+e. -/

namespace Sys2Proof

/-- An 8-bit register operand (R79; field value 6 is the memory byte at HL, which has rows of its own). -/
inductive Reg8 where
  | b
  | c
  | d
  | e
  | h
  | l
  | a
deriving DecidableEq, Repr

/-- The `rr` field (R79). -/
inductive Reg16 where
  | bc
  | de
  | hl
  | sp
deriving DecidableEq, Repr

/-- The `qq` field of PUSH and POP (R79). -/
inductive StackReg where
  | bc
  | de
  | hl
  | af
deriving DecidableEq, Repr

/-- The `cc` field (R79, R85). -/
inductive Cond where
  | nz
  | z
  | nc
  | c
deriving DecidableEq, Repr

/-- The operation `y` of an ALU opcode (41 R122). -/
inductive AluOp where
  | add
  | adc
  | sub
  | sbc
  | and
  | xor
  | or
  | cp
deriving DecidableEq, Repr

/-- The shift function `y` of a CB opcode with x = 0 (43 R164). -/
inductive ShiftOp where
  | rlc
  | rrc
  | rl
  | rr
  | sla
  | sra
  | swap
  | srl
deriving DecidableEq, Repr

/-- The instructions: one constructor per row of spec/opcode_table.json, unprefixed (R87) and CB-prefixed (R88); the rows
with an immediate stand first (Lean's compiler gives constructors with fields the low tags only).
`n` and `e` are the immediate byte as it stands in the code, `nn` the immediate word (R80). `prefix_cb` is the row of
the prefix byte itself; the words it begins are read as the rows of R88 (log 13). -/
inductive Instr where
  | ld_bc_nn (nn : Word)
  | ld_b_n (n : Byte)
  | ld_mnn_sp (nn : Word)
  | ld_c_n (n : Byte)
  | stop (n : Byte)
  | ld_de_nn (nn : Word)
  | ld_d_n (n : Byte)
  | jr_e (e : Byte)
  | ld_e_n (n : Byte)
  | jr_nz_e (e : Byte)
  | ld_hl_nn (nn : Word)
  | ld_h_n (n : Byte)
  | jr_z_e (e : Byte)
  | ld_l_n (n : Byte)
  | jr_nc_e (e : Byte)
  | ld_sp_nn (nn : Word)
  | ld_mhl_n (n : Byte)
  | jr_c_e (e : Byte)
  | ld_a_n (n : Byte)
  | jp_nz_nn (nn : Word)
  | jp_nn (nn : Word)
  | call_nz_nn (nn : Word)
  | add_a_n (n : Byte)
  | jp_z_nn (nn : Word)
  | prefix_cb (op2 : Byte)
  | call_z_nn (nn : Word)
  | call_nn (nn : Word)
  | adc_a_n (n : Byte)
  | jp_nc_nn (nn : Word)
  | call_nc_nn (nn : Word)
  | sub_n (n : Byte)
  | jp_c_nn (nn : Word)
  | call_c_nn (nn : Word)
  | sbc_a_n (n : Byte)
  | ldh_mn_a (n : Byte)
  | and_n (n : Byte)
  | add_sp_e (e : Byte)
  | ld_mnn_a (nn : Word)
  | xor_n (n : Byte)
  | ldh_a_mn (n : Byte)
  | or_n (n : Byte)
  | ld_hl_spe (e : Byte)
  | ld_a_mnn (nn : Word)
  | cp_n (n : Byte)
  | nop
  | ld_mbc_a
  | inc_bc
  | inc_b
  | dec_b
  | rlca
  | add_hl_bc
  | ld_a_mbc
  | dec_bc
  | inc_c
  | dec_c
  | rrca
  | ld_mde_a
  | inc_de
  | inc_d
  | dec_d
  | rla
  | add_hl_de
  | ld_a_mde
  | dec_de
  | inc_e
  | dec_e
  | rra
  | ld_mhli_a
  | inc_hl
  | inc_h
  | dec_h
  | daa
  | add_hl_hl
  | ld_a_mhli
  | dec_hl
  | inc_l
  | dec_l
  | cpl
  | ld_mhld_a
  | inc_sp
  | inc_mhl
  | dec_mhl
  | scf
  | add_hl_sp
  | ld_a_mhld
  | dec_sp
  | inc_a
  | dec_a
  | ccf
  | ld_b_b
  | ld_b_c
  | ld_b_d
  | ld_b_e
  | ld_b_h
  | ld_b_l
  | ld_b_mhl
  | ld_b_a
  | ld_c_b
  | ld_c_c
  | ld_c_d
  | ld_c_e
  | ld_c_h
  | ld_c_l
  | ld_c_mhl
  | ld_c_a
  | ld_d_b
  | ld_d_c
  | ld_d_d
  | ld_d_e
  | ld_d_h
  | ld_d_l
  | ld_d_mhl
  | ld_d_a
  | ld_e_b
  | ld_e_c
  | ld_e_d
  | ld_e_e
  | ld_e_h
  | ld_e_l
  | ld_e_mhl
  | ld_e_a
  | ld_h_b
  | ld_h_c
  | ld_h_d
  | ld_h_e
  | ld_h_h
  | ld_h_l
  | ld_h_mhl
  | ld_h_a
  | ld_l_b
  | ld_l_c
  | ld_l_d
  | ld_l_e
  | ld_l_h
  | ld_l_l
  | ld_l_mhl
  | ld_l_a
  | ld_mhl_b
  | ld_mhl_c
  | ld_mhl_d
  | ld_mhl_e
  | ld_mhl_h
  | ld_mhl_l
  | halt
  | ld_mhl_a
  | ld_a_b
  | ld_a_c
  | ld_a_d
  | ld_a_e
  | ld_a_h
  | ld_a_l
  | ld_a_mhl
  | ld_a_a
  | add_a_b
  | add_a_c
  | add_a_d
  | add_a_e
  | add_a_h
  | add_a_l
  | add_a_mhl
  | add_a_a
  | adc_a_b
  | adc_a_c
  | adc_a_d
  | adc_a_e
  | adc_a_h
  | adc_a_l
  | adc_a_mhl
  | adc_a_a
  | sub_b
  | sub_c
  | sub_d
  | sub_e
  | sub_h
  | sub_l
  | sub_mhl
  | sub_a
  | sbc_a_b
  | sbc_a_c
  | sbc_a_d
  | sbc_a_e
  | sbc_a_h
  | sbc_a_l
  | sbc_a_mhl
  | sbc_a_a
  | and_b
  | and_c
  | and_d
  | and_e
  | and_h
  | and_l
  | and_mhl
  | and_a
  | xor_b
  | xor_c
  | xor_d
  | xor_e
  | xor_h
  | xor_l
  | xor_mhl
  | xor_a
  | or_b
  | or_c
  | or_d
  | or_e
  | or_h
  | or_l
  | or_mhl
  | or_a
  | cp_b
  | cp_c
  | cp_d
  | cp_e
  | cp_h
  | cp_l
  | cp_mhl
  | cp_a
  | ret_nz
  | pop_bc
  | push_bc
  | rst_00h
  | ret_z
  | ret
  | rst_08h
  | ret_nc
  | pop_de
  | illegal_d3
  | push_de
  | rst_10h
  | ret_c
  | reti
  | illegal_db
  | illegal_dd
  | rst_18h
  | pop_hl
  | ld_mc_a
  | illegal_e3
  | illegal_e4
  | push_hl
  | rst_20h
  | jp_hl
  | illegal_eb
  | illegal_ec
  | illegal_ed
  | rst_28h
  | pop_af
  | ld_a_mc
  | di
  | illegal_f4
  | push_af
  | rst_30h
  | ld_sp_hl
  | ei
  | illegal_fc
  | illegal_fd
  | rst_38h
  | rlc_b
  | rlc_c
  | rlc_d
  | rlc_e
  | rlc_h
  | rlc_l
  | rlc_mhl
  | rlc_a
  | rrc_b
  | rrc_c
  | rrc_d
  | rrc_e
  | rrc_h
  | rrc_l
  | rrc_mhl
  | rrc_a
  | rl_b
  | rl_c
  | rl_d
  | rl_e
  | rl_h
  | rl_l
  | rl_mhl
  | rl_a
  | rr_b
  | rr_c
  | rr_d
  | rr_e
  | rr_h
  | rr_l
  | rr_mhl
  | rr_a
  | sla_b
  | sla_c
  | sla_d
  | sla_e
  | sla_h
  | sla_l
  | sla_mhl
  | sla_a
  | sra_b
  | sra_c
  | sra_d
  | sra_e
  | sra_h
  | sra_l
  | sra_mhl
  | sra_a
  | swap_b
  | swap_c
  | swap_d
  | swap_e
  | swap_h
  | swap_l
  | swap_mhl
  | swap_a
  | srl_b
  | srl_c
  | srl_d
  | srl_e
  | srl_h
  | srl_l
  | srl_mhl
  | srl_a
  | bit_0_b
  | bit_0_c
  | bit_0_d
  | bit_0_e
  | bit_0_h
  | bit_0_l
  | bit_0_mhl
  | bit_0_a
  | bit_1_b
  | bit_1_c
  | bit_1_d
  | bit_1_e
  | bit_1_h
  | bit_1_l
  | bit_1_mhl
  | bit_1_a
  | bit_2_b
  | bit_2_c
  | bit_2_d
  | bit_2_e
  | bit_2_h
  | bit_2_l
  | bit_2_mhl
  | bit_2_a
  | bit_3_b
  | bit_3_c
  | bit_3_d
  | bit_3_e
  | bit_3_h
  | bit_3_l
  | bit_3_mhl
  | bit_3_a
  | bit_4_b
  | bit_4_c
  | bit_4_d
  | bit_4_e
  | bit_4_h
  | bit_4_l
  | bit_4_mhl
  | bit_4_a
  | bit_5_b
  | bit_5_c
  | bit_5_d
  | bit_5_e
  | bit_5_h
  | bit_5_l
  | bit_5_mhl
  | bit_5_a
  | bit_6_b
  | bit_6_c
  | bit_6_d
  | bit_6_e
  | bit_6_h
  | bit_6_l
  | bit_6_mhl
  | bit_6_a
  | bit_7_b
  | bit_7_c
  | bit_7_d
  | bit_7_e
  | bit_7_h
  | bit_7_l
  | bit_7_mhl
  | bit_7_a
  | res_0_b
  | res_0_c
  | res_0_d
  | res_0_e
  | res_0_h
  | res_0_l
  | res_0_mhl
  | res_0_a
  | res_1_b
  | res_1_c
  | res_1_d
  | res_1_e
  | res_1_h
  | res_1_l
  | res_1_mhl
  | res_1_a
  | res_2_b
  | res_2_c
  | res_2_d
  | res_2_e
  | res_2_h
  | res_2_l
  | res_2_mhl
  | res_2_a
  | res_3_b
  | res_3_c
  | res_3_d
  | res_3_e
  | res_3_h
  | res_3_l
  | res_3_mhl
  | res_3_a
  | res_4_b
  | res_4_c
  | res_4_d
  | res_4_e
  | res_4_h
  | res_4_l
  | res_4_mhl
  | res_4_a
  | res_5_b
  | res_5_c
  | res_5_d
  | res_5_e
  | res_5_h
  | res_5_l
  | res_5_mhl
  | res_5_a
  | res_6_b
  | res_6_c
  | res_6_d
  | res_6_e
  | res_6_h
  | res_6_l
  | res_6_mhl
  | res_6_a
  | res_7_b
  | res_7_c
  | res_7_d
  | res_7_e
  | res_7_h
  | res_7_l
  | res_7_mhl
  | res_7_a
  | set_0_b
  | set_0_c
  | set_0_d
  | set_0_e
  | set_0_h
  | set_0_l
  | set_0_mhl
  | set_0_a
  | set_1_b
  | set_1_c
  | set_1_d
  | set_1_e
  | set_1_h
  | set_1_l
  | set_1_mhl
  | set_1_a
  | set_2_b
  | set_2_c
  | set_2_d
  | set_2_e
  | set_2_h
  | set_2_l
  | set_2_mhl
  | set_2_a
  | set_3_b
  | set_3_c
  | set_3_d
  | set_3_e
  | set_3_h
  | set_3_l
  | set_3_mhl
  | set_3_a
  | set_4_b
  | set_4_c
  | set_4_d
  | set_4_e
  | set_4_h
  | set_4_l
  | set_4_mhl
  | set_4_a
  | set_5_b
  | set_5_c
  | set_5_d
  | set_5_e
  | set_5_h
  | set_5_l
  | set_5_mhl
  | set_5_a
  | set_6_b
  | set_6_c
  | set_6_d
  | set_6_e
  | set_6_h
  | set_6_l
  | set_6_mhl
  | set_6_a
  | set_7_b
  | set_7_c
  | set_7_d
  | set_7_e
  | set_7_h
  | set_7_l
  | set_7_mhl
  | set_7_a
deriving DecidableEq, Repr

/-- The alternative that a 3-bit field selects. -/
def select8 {α : Type} (k : BitVec 3) (a0 a1 a2 a3 a4 a5 a6 a7 : α) : α :=
  match k.toNat with
  | 0 => a0
  | 1 => a1
  | 2 => a2
  | 3 => a3
  | 4 => a4
  | 5 => a5
  | 6 => a6
  | _ => a7

/-- `LD r,r'` (40 R92). -/
def Instr.ldRegReg : Reg8 → Reg8 → Instr
  | .b, .b => .ld_b_b
  | .b, .c => .ld_b_c
  | .b, .d => .ld_b_d
  | .b, .e => .ld_b_e
  | .b, .h => .ld_b_h
  | .b, .l => .ld_b_l
  | .b, .a => .ld_b_a
  | .c, .b => .ld_c_b
  | .c, .c => .ld_c_c
  | .c, .d => .ld_c_d
  | .c, .e => .ld_c_e
  | .c, .h => .ld_c_h
  | .c, .l => .ld_c_l
  | .c, .a => .ld_c_a
  | .d, .b => .ld_d_b
  | .d, .c => .ld_d_c
  | .d, .d => .ld_d_d
  | .d, .e => .ld_d_e
  | .d, .h => .ld_d_h
  | .d, .l => .ld_d_l
  | .d, .a => .ld_d_a
  | .e, .b => .ld_e_b
  | .e, .c => .ld_e_c
  | .e, .d => .ld_e_d
  | .e, .e => .ld_e_e
  | .e, .h => .ld_e_h
  | .e, .l => .ld_e_l
  | .e, .a => .ld_e_a
  | .h, .b => .ld_h_b
  | .h, .c => .ld_h_c
  | .h, .d => .ld_h_d
  | .h, .e => .ld_h_e
  | .h, .h => .ld_h_h
  | .h, .l => .ld_h_l
  | .h, .a => .ld_h_a
  | .l, .b => .ld_l_b
  | .l, .c => .ld_l_c
  | .l, .d => .ld_l_d
  | .l, .e => .ld_l_e
  | .l, .h => .ld_l_h
  | .l, .l => .ld_l_l
  | .l, .a => .ld_l_a
  | .a, .b => .ld_a_b
  | .a, .c => .ld_a_c
  | .a, .d => .ld_a_d
  | .a, .e => .ld_a_e
  | .a, .h => .ld_a_h
  | .a, .l => .ld_a_l
  | .a, .a => .ld_a_a

/-- `LD r,n` (R93). -/
def Instr.ldRegImm (n : Byte) : Reg8 → Instr
  | .b => .ld_b_n n
  | .c => .ld_c_n n
  | .d => .ld_d_n n
  | .e => .ld_e_n n
  | .h => .ld_h_n n
  | .l => .ld_l_n n
  | .a => .ld_a_n n

/-- `LD r,(HL)` (R94). -/
def Instr.ldRegMem : Reg8 → Instr
  | .b => .ld_b_mhl
  | .c => .ld_c_mhl
  | .d => .ld_d_mhl
  | .e => .ld_e_mhl
  | .h => .ld_h_mhl
  | .l => .ld_l_mhl
  | .a => .ld_a_mhl

/-- `LD (HL),r` (R95). -/
def Instr.ldMemReg : Reg8 → Instr
  | .b => .ld_mhl_b
  | .c => .ld_mhl_c
  | .d => .ld_mhl_d
  | .e => .ld_mhl_e
  | .h => .ld_mhl_h
  | .l => .ld_mhl_l
  | .a => .ld_mhl_a

/-- `LD rr,nn` (R109). -/
def Instr.ldPairImm (nn : Word) : Reg16 → Instr
  | .bc => .ld_bc_nn nn
  | .de => .ld_de_nn nn
  | .hl => .ld_hl_nn nn
  | .sp => .ld_sp_nn nn

/-- `PUSH qq` (R112). -/
def Instr.push : StackReg → Instr
  | .bc => .push_bc
  | .de => .push_de
  | .hl => .push_hl
  | .af => .push_af

/-- `POP qq` (R113). -/
def Instr.pop : StackReg → Instr
  | .bc => .pop_bc
  | .de => .pop_de
  | .hl => .pop_hl
  | .af => .pop_af

/-- The ALU instructions with a register operand (41 R122). -/
def Instr.aluReg : AluOp → Reg8 → Instr
  | .add, .b => .add_a_b
  | .add, .c => .add_a_c
  | .add, .d => .add_a_d
  | .add, .e => .add_a_e
  | .add, .h => .add_a_h
  | .add, .l => .add_a_l
  | .add, .a => .add_a_a
  | .adc, .b => .adc_a_b
  | .adc, .c => .adc_a_c
  | .adc, .d => .adc_a_d
  | .adc, .e => .adc_a_e
  | .adc, .h => .adc_a_h
  | .adc, .l => .adc_a_l
  | .adc, .a => .adc_a_a
  | .sub, .b => .sub_b
  | .sub, .c => .sub_c
  | .sub, .d => .sub_d
  | .sub, .e => .sub_e
  | .sub, .h => .sub_h
  | .sub, .l => .sub_l
  | .sub, .a => .sub_a
  | .sbc, .b => .sbc_a_b
  | .sbc, .c => .sbc_a_c
  | .sbc, .d => .sbc_a_d
  | .sbc, .e => .sbc_a_e
  | .sbc, .h => .sbc_a_h
  | .sbc, .l => .sbc_a_l
  | .sbc, .a => .sbc_a_a
  | .and, .b => .and_b
  | .and, .c => .and_c
  | .and, .d => .and_d
  | .and, .e => .and_e
  | .and, .h => .and_h
  | .and, .l => .and_l
  | .and, .a => .and_a
  | .xor, .b => .xor_b
  | .xor, .c => .xor_c
  | .xor, .d => .xor_d
  | .xor, .e => .xor_e
  | .xor, .h => .xor_h
  | .xor, .l => .xor_l
  | .xor, .a => .xor_a
  | .or, .b => .or_b
  | .or, .c => .or_c
  | .or, .d => .or_d
  | .or, .e => .or_e
  | .or, .h => .or_h
  | .or, .l => .or_l
  | .or, .a => .or_a
  | .cp, .b => .cp_b
  | .cp, .c => .cp_c
  | .cp, .d => .cp_d
  | .cp, .e => .cp_e
  | .cp, .h => .cp_h
  | .cp, .l => .cp_l
  | .cp, .a => .cp_a

/-- The ALU instructions with the operand (HL) (R122). -/
def Instr.aluMem : AluOp → Instr
  | .add => .add_a_mhl
  | .adc => .adc_a_mhl
  | .sub => .sub_mhl
  | .sbc => .sbc_a_mhl
  | .and => .and_mhl
  | .xor => .xor_mhl
  | .or => .or_mhl
  | .cp => .cp_mhl

/-- The ALU instructions with an immediate operand (R122). -/
def Instr.aluImm (n : Byte) : AluOp → Instr
  | .add => .add_a_n n
  | .adc => .adc_a_n n
  | .sub => .sub_n n
  | .sbc => .sbc_a_n n
  | .and => .and_n n
  | .xor => .xor_n n
  | .or => .or_n n
  | .cp => .cp_n n

/-- `INC r` (R147). -/
def Instr.incReg : Reg8 → Instr
  | .b => .inc_b
  | .c => .inc_c
  | .d => .inc_d
  | .e => .inc_e
  | .h => .inc_h
  | .l => .inc_l
  | .a => .inc_a

/-- `DEC r` (R149). -/
def Instr.decReg : Reg8 → Instr
  | .b => .dec_b
  | .c => .dec_c
  | .d => .dec_d
  | .e => .dec_e
  | .h => .dec_h
  | .l => .dec_l
  | .a => .dec_a

/-- `INC rr` (42 R156). -/
def Instr.incPair : Reg16 → Instr
  | .bc => .inc_bc
  | .de => .inc_de
  | .hl => .inc_hl
  | .sp => .inc_sp

/-- `DEC rr` (R157). -/
def Instr.decPair : Reg16 → Instr
  | .bc => .dec_bc
  | .de => .dec_de
  | .hl => .dec_hl
  | .sp => .dec_sp

/-- `ADD HL,rr` (R155). -/
def Instr.addHl : Reg16 → Instr
  | .bc => .add_hl_bc
  | .de => .add_hl_de
  | .hl => .add_hl_hl
  | .sp => .add_hl_sp

/-- The CB shifts of a register (43 R164). -/
def Instr.shiftReg : ShiftOp → Reg8 → Instr
  | .rlc, .b => .rlc_b
  | .rlc, .c => .rlc_c
  | .rlc, .d => .rlc_d
  | .rlc, .e => .rlc_e
  | .rlc, .h => .rlc_h
  | .rlc, .l => .rlc_l
  | .rlc, .a => .rlc_a
  | .rrc, .b => .rrc_b
  | .rrc, .c => .rrc_c
  | .rrc, .d => .rrc_d
  | .rrc, .e => .rrc_e
  | .rrc, .h => .rrc_h
  | .rrc, .l => .rrc_l
  | .rrc, .a => .rrc_a
  | .rl, .b => .rl_b
  | .rl, .c => .rl_c
  | .rl, .d => .rl_d
  | .rl, .e => .rl_e
  | .rl, .h => .rl_h
  | .rl, .l => .rl_l
  | .rl, .a => .rl_a
  | .rr, .b => .rr_b
  | .rr, .c => .rr_c
  | .rr, .d => .rr_d
  | .rr, .e => .rr_e
  | .rr, .h => .rr_h
  | .rr, .l => .rr_l
  | .rr, .a => .rr_a
  | .sla, .b => .sla_b
  | .sla, .c => .sla_c
  | .sla, .d => .sla_d
  | .sla, .e => .sla_e
  | .sla, .h => .sla_h
  | .sla, .l => .sla_l
  | .sla, .a => .sla_a
  | .sra, .b => .sra_b
  | .sra, .c => .sra_c
  | .sra, .d => .sra_d
  | .sra, .e => .sra_e
  | .sra, .h => .sra_h
  | .sra, .l => .sra_l
  | .sra, .a => .sra_a
  | .swap, .b => .swap_b
  | .swap, .c => .swap_c
  | .swap, .d => .swap_d
  | .swap, .e => .swap_e
  | .swap, .h => .swap_h
  | .swap, .l => .swap_l
  | .swap, .a => .swap_a
  | .srl, .b => .srl_b
  | .srl, .c => .srl_c
  | .srl, .d => .srl_d
  | .srl, .e => .srl_e
  | .srl, .h => .srl_h
  | .srl, .l => .srl_l
  | .srl, .a => .srl_a

/-- The CB shifts of (HL) (R164). -/
def Instr.shiftMem : ShiftOp → Instr
  | .rlc => .rlc_mhl
  | .rrc => .rrc_mhl
  | .rl => .rl_mhl
  | .rr => .rr_mhl
  | .sla => .sla_mhl
  | .sra => .sra_mhl
  | .swap => .swap_mhl
  | .srl => .srl_mhl

/-- `BIT b,r` (R181). -/
def Instr.bitReg (k : BitVec 3) : Reg8 → Instr
  | .b => select8 k .bit_0_b .bit_1_b .bit_2_b .bit_3_b .bit_4_b .bit_5_b .bit_6_b .bit_7_b
  | .c => select8 k .bit_0_c .bit_1_c .bit_2_c .bit_3_c .bit_4_c .bit_5_c .bit_6_c .bit_7_c
  | .d => select8 k .bit_0_d .bit_1_d .bit_2_d .bit_3_d .bit_4_d .bit_5_d .bit_6_d .bit_7_d
  | .e => select8 k .bit_0_e .bit_1_e .bit_2_e .bit_3_e .bit_4_e .bit_5_e .bit_6_e .bit_7_e
  | .h => select8 k .bit_0_h .bit_1_h .bit_2_h .bit_3_h .bit_4_h .bit_5_h .bit_6_h .bit_7_h
  | .l => select8 k .bit_0_l .bit_1_l .bit_2_l .bit_3_l .bit_4_l .bit_5_l .bit_6_l .bit_7_l
  | .a => select8 k .bit_0_a .bit_1_a .bit_2_a .bit_3_a .bit_4_a .bit_5_a .bit_6_a .bit_7_a

/-- `BIT b,(HL)` (R182). -/
def Instr.bitMem (k : BitVec 3) : Instr :=
  select8 k .bit_0_mhl .bit_1_mhl .bit_2_mhl .bit_3_mhl .bit_4_mhl .bit_5_mhl .bit_6_mhl .bit_7_mhl

/-- `RES b,r` (R183). -/
def Instr.resReg (k : BitVec 3) : Reg8 → Instr
  | .b => select8 k .res_0_b .res_1_b .res_2_b .res_3_b .res_4_b .res_5_b .res_6_b .res_7_b
  | .c => select8 k .res_0_c .res_1_c .res_2_c .res_3_c .res_4_c .res_5_c .res_6_c .res_7_c
  | .d => select8 k .res_0_d .res_1_d .res_2_d .res_3_d .res_4_d .res_5_d .res_6_d .res_7_d
  | .e => select8 k .res_0_e .res_1_e .res_2_e .res_3_e .res_4_e .res_5_e .res_6_e .res_7_e
  | .h => select8 k .res_0_h .res_1_h .res_2_h .res_3_h .res_4_h .res_5_h .res_6_h .res_7_h
  | .l => select8 k .res_0_l .res_1_l .res_2_l .res_3_l .res_4_l .res_5_l .res_6_l .res_7_l
  | .a => select8 k .res_0_a .res_1_a .res_2_a .res_3_a .res_4_a .res_5_a .res_6_a .res_7_a

/-- `RES b,(HL)` (R184). -/
def Instr.resMem (k : BitVec 3) : Instr :=
  select8 k .res_0_mhl .res_1_mhl .res_2_mhl .res_3_mhl .res_4_mhl .res_5_mhl .res_6_mhl .res_7_mhl

/-- `SET b,r` (R185). -/
def Instr.setReg (k : BitVec 3) : Reg8 → Instr
  | .b => select8 k .set_0_b .set_1_b .set_2_b .set_3_b .set_4_b .set_5_b .set_6_b .set_7_b
  | .c => select8 k .set_0_c .set_1_c .set_2_c .set_3_c .set_4_c .set_5_c .set_6_c .set_7_c
  | .d => select8 k .set_0_d .set_1_d .set_2_d .set_3_d .set_4_d .set_5_d .set_6_d .set_7_d
  | .e => select8 k .set_0_e .set_1_e .set_2_e .set_3_e .set_4_e .set_5_e .set_6_e .set_7_e
  | .h => select8 k .set_0_h .set_1_h .set_2_h .set_3_h .set_4_h .set_5_h .set_6_h .set_7_h
  | .l => select8 k .set_0_l .set_1_l .set_2_l .set_3_l .set_4_l .set_5_l .set_6_l .set_7_l
  | .a => select8 k .set_0_a .set_1_a .set_2_a .set_3_a .set_4_a .set_5_a .set_6_a .set_7_a

/-- `SET b,(HL)` (R186). -/
def Instr.setMem (k : BitVec 3) : Instr :=
  select8 k .set_0_mhl .set_1_mhl .set_2_mhl .set_3_mhl .set_4_mhl .set_5_mhl .set_6_mhl .set_7_mhl

/-- `JP cc,nn` (44 R188). -/
def Instr.jpIf (nn : Word) : Cond → Instr
  | .nz => .jp_nz_nn nn
  | .z => .jp_z_nn nn
  | .nc => .jp_nc_nn nn
  | .c => .jp_c_nn nn

/-- `JR cc,e` (R191). -/
def Instr.jrIf (e : Byte) : Cond → Instr
  | .nz => .jr_nz_e e
  | .z => .jr_z_e e
  | .nc => .jr_nc_e e
  | .c => .jr_c_e e

/-- `CALL cc,nn` (R193). -/
def Instr.callIf (nn : Word) : Cond → Instr
  | .nz => .call_nz_nn nn
  | .z => .call_z_nn nn
  | .nc => .call_nc_nn nn
  | .c => .call_c_nn nn

/-- `RET cc` (R195). -/
def Instr.retIf : Cond → Instr
  | .nz => .ret_nz
  | .z => .ret_z
  | .nc => .ret_nc
  | .c => .ret_c

/-- `RST t` (R197). -/
def Instr.rst (t : BitVec 3) : Instr :=
  select8 t .rst_00h .rst_08h .rst_10h .rst_18h .rst_20h .rst_28h .rst_30h .rst_38h

/-- The eleven undefined opcodes and their rows (30_encoding R89). -/
def illegalRows : List (Byte × Instr) :=
  [ (0xD3, .illegal_d3),
    (0xDB, .illegal_db),
    (0xDD, .illegal_dd),
    (0xE3, .illegal_e3),
    (0xE4, .illegal_e4),
    (0xEB, .illegal_eb),
    (0xEC, .illegal_ec),
    (0xED, .illegal_ed),
    (0xF4, .illegal_f4),
    (0xFC, .illegal_fc),
    (0xFD, .illegal_fd) ]

end Sys2Proof
end

