-- ==== Sys2Proof/Machine/Flags.lean ====
section
/-! DEFINITION. Every result and flag computation of the spec (41 R114 to R121, R147 to R154; 42 R155 to R159;
43 R160 to R164), as functions of the operands. Operands become exact numbers and are narrowed at the end. -/

namespace Sys2Proof.Machine

/-- A byte result and the four flags. -/
structure AluOut where
  res : Byte
  z : Bool
  n : Bool
  h : Bool
  c : Bool
deriving DecidableEq, Repr

/-- `v AND 0x0F` as a number. -/
def lowNibble (v : Byte) : Nat := v.toNat % 16

/-- ADD8 (R114). -/
def add8 (a b : Byte) : AluOut :=
  let r := BitVec.ofNat 8 (a.toNat + b.toNat)
  ⟨r, decide (r = 0), false, decide (0x0F < lowNibble a + lowNibble b), decide (0xFF < a.toNat + b.toNat)⟩

/-- ADC8 (R115). -/
def adc8 (a b : Byte) (c : Bool) : AluOut :=
  let r := BitVec.ofNat 8 (a.toNat + b.toNat + c.toNat)
  ⟨r, decide (r = 0), false, decide (0x0F < lowNibble a + lowNibble b + c.toNat),
    decide (0xFF < a.toNat + b.toNat + c.toNat)⟩

/-- SUB8 (R116): Z is an equality test. -/
def sub8 (a b : Byte) : AluOut :=
  ⟨BitVec.ofInt 8 (a.toNat - b.toNat), decide (a = b), true, decide (lowNibble a < lowNibble b),
    decide (a.toNat < b.toNat)⟩

/-- SBC8 (R117). -/
def sbc8 (a b : Byte) (c : Bool) : AluOut :=
  let r := BitVec.ofInt 8 (a.toNat - b.toNat - c.toNat)
  ⟨r, decide (r = 0), true, decide (lowNibble a < lowNibble b + c.toNat), decide (a.toNat < b.toNat + c.toNat)⟩

/-- AND8 (R118). -/
def and8 (a b : Byte) : AluOut := ⟨a &&& b, decide (a &&& b = 0), false, true, false⟩

/-- XOR8 (R119). -/
def xor8 (a b : Byte) : AluOut := ⟨a ^^^ b, decide (a ^^^ b = 0), false, false, false⟩

/-- OR8 (R120). -/
def or8 (a b : Byte) : AluOut := ⟨a ||| b, decide (a ||| b = 0), false, false, false⟩

/-- CP8 (R121): the flags of SUB8; the result is discarded, so the accumulator stays. -/
def cp8 (a b : Byte) : AluOut := { sub8 a b with res := a }

/-- The operation that `y` of an ALU opcode selects (R122), with carry-in `c`. -/
def aluOut (op : AluOp) (a b : Byte) (c : Bool) : AluOut :=
  match op with
  | .add => add8 a b
  | .adc => adc8 a b c
  | .sub => sub8 a b
  | .sbc => sbc8 a b c
  | .and => and8 a b
  | .xor => xor8 a b
  | .or => or8 a b
  | .cp => cp8 a b

/-- INC of a byte (R147); C is the C before. -/
def inc8 (v : Byte) (c : Bool) : AluOut :=
  let r := BitVec.ofNat 8 (v.toNat + 1)
  ⟨r, decide (r = 0), false, decide (lowNibble v = 0x0F), c⟩

/-- DEC of a byte (R149); C is the C before. -/
def dec8 (v : Byte) (c : Bool) : AluOut :=
  let r := BitVec.ofInt 8 (v.toNat - 1)
  ⟨r, decide (r = 0), true, decide (lowNibble v = 0), c⟩

/-- The adjusted 16-bit intermediate of DAA (R151). -/
def daaIntermediate (a : Byte) (n h c : Bool) : Word :=
  let s : Word := a.setWidth 16
  if n then
    let s := if h then (s - 0x06) &&& 0x00FF else s
    if c then s - 0x60 else s
  else
    let s := if h || decide (9 < s.toNat % 16) then s + 0x06 else s
    if c || decide (0x9F < s.toNat) then s + 0x60 else s

/-- DAA (R151), under DAA_CARRY_RULE (00_scope R15). -/
def daa8 (rule : DaaCarryRule) (a : Byte) (n h c : Bool) : AluOut :=
  let s := daaIntermediate a n h c
  let bit8 := s.getLsbD 8
  ⟨loByte s, decide (loByte s = 0), n, false,
    match rule with
    | .bit8 => bit8
    | .sticky => c || bit8⟩

/-- The result and the carry out of the eight shift functions (43 R164) on a byte with carry-in `c`. -/
def shiftOut (op : ShiftOp) (v : Byte) (c : Bool) : Byte × Bool :=
  let bit (b : Bool) : Byte := (BitVec.ofBool b).setWidth 8
  match op with
  | .rlc => ((v <<< 1) ||| bit (v.getLsbD 7), v.getLsbD 7)
  | .rrc => ((v >>> 1) ||| (bit (v.getLsbD 0) <<< 7), v.getLsbD 0)
  | .rl => ((v <<< 1) ||| bit c, v.getLsbD 7)
  | .rr => ((v >>> 1) ||| (bit c <<< 7), v.getLsbD 0)
  | .sla => (v <<< 1, v.getLsbD 7)
  | .sra => ((v >>> 1) ||| (v &&& 0x80), v.getLsbD 0)
  | .swap => ((v <<< 4) ||| (v >>> 4), false)
  | .srl => (v >>> 1, v.getLsbD 0)

/-- The flags of the CB shift functions (R164). -/
def shiftAlu (op : ShiftOp) (v : Byte) (c : Bool) : AluOut :=
  let r := shiftOut op v c
  ⟨r.1, decide (r.1 = 0), false, false, r.2⟩

/-- H of `SP + e`: the carry out of the low nibbles (42 R158). -/
def spHalfCarry (sp : Word) (e : Byte) : Bool := decide (0x0F < sp.toNat % 16 + lowNibble e)

/-- C of `SP + e`: the carry out of the low bytes, `e` taken unsigned (R158). -/
def spCarry (sp : Word) (e : Byte) : Bool := decide (0xFF < sp.toNat % 256 + e.toNat)

end Sys2Proof.Machine
end

