-- ==== Sys2Proof/Machine/Operands.lean ====
section
/-! DEFINITION. The operand forms: registers, pairs, flags, conditions and effective addresses (10_state R20 to R25,
30_encoding R79, R85). -/

namespace Sys2Proof.Machine

/-- An 8-bit register (R20). -/
def State.get8 (s : State) : Reg8 → Byte
  | .b => s.b
  | .c => s.c
  | .d => s.d
  | .e => s.e
  | .h => s.h
  | .l => s.l
  | .a => s.a

/-- `r <- v`. -/
def State.set8 (s : State) (r : Reg8) (v : Byte) : State :=
  match r with
  | .b => { s with b := v }
  | .c => { s with c := v }
  | .d => { s with d := v }
  | .e => { s with e := v }
  | .h => { s with h := v }
  | .l => { s with l := v }
  | .a => { s with a := v }

/-- BC = B:C (R21). -/
def State.bc (s : State) : Word := word s.b s.c
/-- DE = D:E (R21). -/
def State.de (s : State) : Word := word s.d s.e
/-- HL = H:L (R21). -/
def State.hl (s : State) : Word := word s.h s.l
/-- AF = A:F (R21). -/
def State.af (s : State) : Word := word s.a s.f

/-- HL <- v: both halves (R21). -/
def State.setHl (s : State) (v : Word) : State := { s with h := hiByte v, l := loByte v }

/-- A pair of the `rr` field (R79). -/
def State.get16 (s : State) : Reg16 → Word
  | .bc => s.bc
  | .de => s.de
  | .hl => s.hl
  | .sp => s.sp

/-- `rr <- v`: a write to a pair writes both halves (R21). -/
def State.set16 (s : State) (r : Reg16) (v : Word) : State :=
  match r with
  | .bc => { s with b := hiByte v, c := loByte v }
  | .de => { s with d := hiByte v, e := loByte v }
  | .hl => s.setHl v
  | .sp => { s with sp := v }

/-- A pair of the `qq` field (R79). -/
def State.getStack (s : State) : StackReg → Word
  | .bc => s.bc
  | .de => s.de
  | .hl => s.hl
  | .af => s.af

/-- `qq <- v` as POP writes it: F keeps bits 7:4 of the low byte, and bits 3:0 become 0 (40 R113). -/
def State.setStack (s : State) (q : StackReg) (v : Word) : State :=
  match q with
  | .bc => { s with b := hiByte v, c := loByte v }
  | .de => { s with d := hiByte v, e := loByte v }
  | .hl => s.setHl v
  | .af => { s with a := hiByte v, f := loByte v &&& 0xF0 }

/-- Z, bit 7 of F (R23). -/
def State.flagZ (s : State) : Bool := s.f.getLsbD 7
/-- N, bit 6 of F (R23). -/
def State.flagN (s : State) : Bool := s.f.getLsbD 6
/-- H, bit 5 of F (R23). -/
def State.flagH (s : State) : Bool := s.f.getLsbD 5
/-- C, bit 4 of F (R23). -/
def State.flagC (s : State) : Bool := s.f.getLsbD 4

/-- The four flags written: flag updates write only bits 7:4 of F (R24). -/
def State.setFlags (s : State) (z n h c : Bool) : State := { s with f := packFlags z n h c (s.f.extractLsb' 0 4) }

/-- The four flags of an ALU result written. -/
def State.setAluFlags (s : State) (o : AluOut) : State := s.setFlags o.z o.n o.h o.c

/-- `cond(cc)` (R85). -/
def State.holds (s : State) : Cond → Bool
  | .nz => !s.flagZ
  | .z => s.flagZ
  | .nc => !s.flagC
  | .c => s.flagC

/-- The target of a relative jump, from the PC after the instruction's bytes (44 R190). -/
def State.relative (s : State) (e : Byte) : Word := s.pc + sext16 e

/-- `SP + sext_16(e)` (42 R158). -/
def State.spPlus (s : State) (e : Byte) : Word := s.sp + sext16 e

end Sys2Proof.Machine
end

