-- ==== Sys2Proof/Machine/Alu16.lean ====
section
/-! DEFINITION. 16-bit arithmetic (42_alu16 R155 to R159). -/

namespace Sys2Proof.Machine

/-- `ADD HL,rr`, 8 cycles (R155): Z unchanged, N = 0, H the parameter ADD16_HALF_CARRY (log 4), C from bit 16. -/
def addHl (r : Reg16) (s : State) : Result :=
  let t := s.hl.toNat + (s.get16 r).toNat
  let res : Word := BitVec.ofNat 16 t
  .next (((s.setHl res).setFlags s.flagZ false (Config.add16HalfCarry s.hl (s.get16 r) res) (decide (0xFFFF < t))).tick 8)

/-! ## One meaning per row of the opcode table -/

/-- `INC BC` (R156). -/
def exec_inc_bc (s : State) : Result := .next ((s.set16 .bc (s.get16 .bc + 1)).tick 8)

/-- `ADD HL,BC` (R155). -/
def exec_add_hl_bc (s : State) : Result := addHl .bc s

/-- `DEC BC` (R157). -/
def exec_dec_bc (s : State) : Result := .next ((s.set16 .bc (s.get16 .bc - 1)).tick 8)

/-- `INC DE` (R156). -/
def exec_inc_de (s : State) : Result := .next ((s.set16 .de (s.get16 .de + 1)).tick 8)

/-- `ADD HL,DE` (R155). -/
def exec_add_hl_de (s : State) : Result := addHl .de s

/-- `DEC DE` (R157). -/
def exec_dec_de (s : State) : Result := .next ((s.set16 .de (s.get16 .de - 1)).tick 8)

/-- `INC HL` (R156). -/
def exec_inc_hl (s : State) : Result := .next ((s.set16 .hl (s.get16 .hl + 1)).tick 8)

/-- `ADD HL,HL` (R155). -/
def exec_add_hl_hl (s : State) : Result := addHl .hl s

/-- `DEC HL` (R157). -/
def exec_dec_hl (s : State) : Result := .next ((s.set16 .hl (s.get16 .hl - 1)).tick 8)

/-- `INC SP` (R156). -/
def exec_inc_sp (s : State) : Result := .next ((s.set16 .sp (s.get16 .sp + 1)).tick 8)

/-- `ADD HL,SP` (R155). -/
def exec_add_hl_sp (s : State) : Result := addHl .sp s

/-- `DEC SP` (R157). -/
def exec_dec_sp (s : State) : Result := .next ((s.set16 .sp (s.get16 .sp - 1)).tick 8)

/-- `ADD SP,e` (R158). -/
def exec_add_sp_e (e : Byte) (s : State) : Result :=
  .next (({ s with sp := s.spPlus e }.setFlags false false (spHalfCarry s.sp e) (spCarry s.sp e)).tick 16)

/-- `LD HL,SP+e` (R159). -/
def exec_ld_hl_spe (e : Byte) (s : State) : Result :=
  .next (((s.setHl (s.spPlus e)).setFlags false false (spHalfCarry s.sp e) (spCarry s.sp e)).tick 12)

end Sys2Proof.Machine
end

