-- ==== Sys2Proof/Machine/Alu8.lean ====
section
/-! DEFINITION. 8-bit arithmetic and logic (41_alu8 R122 to R154). -/

namespace Sys2Proof.Machine

/-- The accumulator and the flags of an ALU result written. -/
def State.setAlu (s : State) (o : AluOut) : State := { s with a := o.res }.setAluFlags o

/-- `(A, Z, N, H, C) <- op(A, operand)`, with the carry-in of the flags (R122, R123 to R146). -/
def aluWith (op : AluOp) (operand : Byte) (cycles : Nat) (s : State) : Result :=
  .next ((s.setAlu (aluOut op s.a operand s.flagC)).tick cycles)

/-- The ALU operation on the byte at HL, 8 cycles (R122): the read, then the operation. -/
def aluMem (op : AluOp) (s : State) : Result := aluWith op (s.loadByte s.hl) 8 (s.afterLoad s.hl)

/-- `INC r`, 4 cycles (R147). -/
def incReg (r : Reg8) (s : State) : Result :=
  let o := inc8 (s.get8 r) s.flagC
  .next (((s.set8 r o.res).setAluFlags o).tick 4)

/-- `DEC r`, 4 cycles (R149). -/
def decReg (r : Reg8) (s : State) : Result :=
  let o := dec8 (s.get8 r) s.flagC
  .next (((s.set8 r o.res).setAluFlags o).tick 4)

/-- The byte at HL replaced by the result of `o`, and the flags written: two bus accesses (R148, R150; 43 R164). -/
def State.replaceAtHl (s : State) (o : AluOut) (cycles : Nat) : Result :=
  seq ((s.afterLoad s.hl).store s.hl o.res) fun t => .next ((t.setAluFlags o).tick cycles)

/-- `INC (HL)`, 12 cycles (R148). -/
def incMem (s : State) : Result := s.replaceAtHl (inc8 (s.loadByte s.hl) s.flagC) 12

/-- `DEC (HL)`, 12 cycles (R150). -/
def decMem (s : State) : Result := s.replaceAtHl (dec8 (s.loadByte s.hl) s.flagC) 12

/-- DAA, 4 cycles (R151). -/
def adjustAccumulator (s : State) : Result :=
  .next ((s.setAlu (daa8 s.cfg.daaCarryRule s.a s.flagN s.flagH s.flagC)).tick 4)

/-! ## One meaning per row of the opcode table -/

/-- `INC B` (R147). -/
def exec_inc_b (s : State) : Result := incReg .b s

/-- `DEC B` (R149). -/
def exec_dec_b (s : State) : Result := decReg .b s

/-- `INC C` (R147). -/
def exec_inc_c (s : State) : Result := incReg .c s

/-- `DEC C` (R149). -/
def exec_dec_c (s : State) : Result := decReg .c s

/-- `INC D` (R147). -/
def exec_inc_d (s : State) : Result := incReg .d s

/-- `DEC D` (R149). -/
def exec_dec_d (s : State) : Result := decReg .d s

/-- `INC E` (R147). -/
def exec_inc_e (s : State) : Result := incReg .e s

/-- `DEC E` (R149). -/
def exec_dec_e (s : State) : Result := decReg .e s

/-- `INC H` (R147). -/
def exec_inc_h (s : State) : Result := incReg .h s

/-- `DEC H` (R149). -/
def exec_dec_h (s : State) : Result := decReg .h s

/-- `DAA` (R151). -/
def exec_daa (s : State) : Result := adjustAccumulator s

/-- `INC L` (R147). -/
def exec_inc_l (s : State) : Result := incReg .l s

/-- `DEC L` (R149). -/
def exec_dec_l (s : State) : Result := decReg .l s

/-- `CPL` (R152). -/
def exec_cpl (s : State) : Result :=
  .next (({ s with a := s.a ^^^ 0xFF }.setFlags s.flagZ true true s.flagC).tick 4)

/-- `INC (HL)` (R148). -/
def exec_inc_mhl (s : State) : Result := incMem s

/-- `DEC (HL)` (R150). -/
def exec_dec_mhl (s : State) : Result := decMem s

/-- `SCF` (R153). -/
def exec_scf (s : State) : Result := .next ((s.setFlags s.flagZ false false true).tick 4)

/-- `INC A` (R147). -/
def exec_inc_a (s : State) : Result := incReg .a s

/-- `DEC A` (R149). -/
def exec_dec_a (s : State) : Result := decReg .a s

/-- `CCF` (R154). -/
def exec_ccf (s : State) : Result := .next ((s.setFlags s.flagZ false false (!s.flagC)).tick 4)

/-- `ADD A,B` (R123). -/
def exec_add_a_b (s : State) : Result := aluWith .add (s.get8 .b) 4 s

/-- `ADD A,C` (R123). -/
def exec_add_a_c (s : State) : Result := aluWith .add (s.get8 .c) 4 s

/-- `ADD A,D` (R123). -/
def exec_add_a_d (s : State) : Result := aluWith .add (s.get8 .d) 4 s

/-- `ADD A,E` (R123). -/
def exec_add_a_e (s : State) : Result := aluWith .add (s.get8 .e) 4 s

/-- `ADD A,H` (R123). -/
def exec_add_a_h (s : State) : Result := aluWith .add (s.get8 .h) 4 s

/-- `ADD A,L` (R123). -/
def exec_add_a_l (s : State) : Result := aluWith .add (s.get8 .l) 4 s

/-- `ADD A,(HL)` (R124). -/
def exec_add_a_mhl (s : State) : Result := aluMem .add s

/-- `ADD A,A` (R123). -/
def exec_add_a_a (s : State) : Result := aluWith .add (s.get8 .a) 4 s

/-- `ADC A,B` (R126). -/
def exec_adc_a_b (s : State) : Result := aluWith .adc (s.get8 .b) 4 s

/-- `ADC A,C` (R126). -/
def exec_adc_a_c (s : State) : Result := aluWith .adc (s.get8 .c) 4 s

/-- `ADC A,D` (R126). -/
def exec_adc_a_d (s : State) : Result := aluWith .adc (s.get8 .d) 4 s

/-- `ADC A,E` (R126). -/
def exec_adc_a_e (s : State) : Result := aluWith .adc (s.get8 .e) 4 s

/-- `ADC A,H` (R126). -/
def exec_adc_a_h (s : State) : Result := aluWith .adc (s.get8 .h) 4 s

/-- `ADC A,L` (R126). -/
def exec_adc_a_l (s : State) : Result := aluWith .adc (s.get8 .l) 4 s

/-- `ADC A,(HL)` (R127). -/
def exec_adc_a_mhl (s : State) : Result := aluMem .adc s

/-- `ADC A,A` (R126). -/
def exec_adc_a_a (s : State) : Result := aluWith .adc (s.get8 .a) 4 s

/-- `SUB B` (R129). -/
def exec_sub_b (s : State) : Result := aluWith .sub (s.get8 .b) 4 s

/-- `SUB C` (R129). -/
def exec_sub_c (s : State) : Result := aluWith .sub (s.get8 .c) 4 s

/-- `SUB D` (R129). -/
def exec_sub_d (s : State) : Result := aluWith .sub (s.get8 .d) 4 s

/-- `SUB E` (R129). -/
def exec_sub_e (s : State) : Result := aluWith .sub (s.get8 .e) 4 s

/-- `SUB H` (R129). -/
def exec_sub_h (s : State) : Result := aluWith .sub (s.get8 .h) 4 s

/-- `SUB L` (R129). -/
def exec_sub_l (s : State) : Result := aluWith .sub (s.get8 .l) 4 s

/-- `SUB (HL)` (R130). -/
def exec_sub_mhl (s : State) : Result := aluMem .sub s

/-- `SUB A` (R129). -/
def exec_sub_a (s : State) : Result := aluWith .sub (s.get8 .a) 4 s

/-- `SBC A,B` (R132). -/
def exec_sbc_a_b (s : State) : Result := aluWith .sbc (s.get8 .b) 4 s

/-- `SBC A,C` (R132). -/
def exec_sbc_a_c (s : State) : Result := aluWith .sbc (s.get8 .c) 4 s

/-- `SBC A,D` (R132). -/
def exec_sbc_a_d (s : State) : Result := aluWith .sbc (s.get8 .d) 4 s

/-- `SBC A,E` (R132). -/
def exec_sbc_a_e (s : State) : Result := aluWith .sbc (s.get8 .e) 4 s

/-- `SBC A,H` (R132). -/
def exec_sbc_a_h (s : State) : Result := aluWith .sbc (s.get8 .h) 4 s

/-- `SBC A,L` (R132). -/
def exec_sbc_a_l (s : State) : Result := aluWith .sbc (s.get8 .l) 4 s

/-- `SBC A,(HL)` (R133). -/
def exec_sbc_a_mhl (s : State) : Result := aluMem .sbc s

/-- `SBC A,A` (R132). -/
def exec_sbc_a_a (s : State) : Result := aluWith .sbc (s.get8 .a) 4 s

/-- `AND B` (R135). -/
def exec_and_b (s : State) : Result := aluWith .and (s.get8 .b) 4 s

/-- `AND C` (R135). -/
def exec_and_c (s : State) : Result := aluWith .and (s.get8 .c) 4 s

/-- `AND D` (R135). -/
def exec_and_d (s : State) : Result := aluWith .and (s.get8 .d) 4 s

/-- `AND E` (R135). -/
def exec_and_e (s : State) : Result := aluWith .and (s.get8 .e) 4 s

/-- `AND H` (R135). -/
def exec_and_h (s : State) : Result := aluWith .and (s.get8 .h) 4 s

/-- `AND L` (R135). -/
def exec_and_l (s : State) : Result := aluWith .and (s.get8 .l) 4 s

/-- `AND (HL)` (R136). -/
def exec_and_mhl (s : State) : Result := aluMem .and s

/-- `AND A` (R135). -/
def exec_and_a (s : State) : Result := aluWith .and (s.get8 .a) 4 s

/-- `XOR B` (R138). -/
def exec_xor_b (s : State) : Result := aluWith .xor (s.get8 .b) 4 s

/-- `XOR C` (R138). -/
def exec_xor_c (s : State) : Result := aluWith .xor (s.get8 .c) 4 s

/-- `XOR D` (R138). -/
def exec_xor_d (s : State) : Result := aluWith .xor (s.get8 .d) 4 s

/-- `XOR E` (R138). -/
def exec_xor_e (s : State) : Result := aluWith .xor (s.get8 .e) 4 s

/-- `XOR H` (R138). -/
def exec_xor_h (s : State) : Result := aluWith .xor (s.get8 .h) 4 s

/-- `XOR L` (R138). -/
def exec_xor_l (s : State) : Result := aluWith .xor (s.get8 .l) 4 s

/-- `XOR (HL)` (R139). -/
def exec_xor_mhl (s : State) : Result := aluMem .xor s

/-- `XOR A` (R138). -/
def exec_xor_a (s : State) : Result := aluWith .xor (s.get8 .a) 4 s

/-- `OR B` (R141). -/
def exec_or_b (s : State) : Result := aluWith .or (s.get8 .b) 4 s

/-- `OR C` (R141). -/
def exec_or_c (s : State) : Result := aluWith .or (s.get8 .c) 4 s

/-- `OR D` (R141). -/
def exec_or_d (s : State) : Result := aluWith .or (s.get8 .d) 4 s

/-- `OR E` (R141). -/
def exec_or_e (s : State) : Result := aluWith .or (s.get8 .e) 4 s

/-- `OR H` (R141). -/
def exec_or_h (s : State) : Result := aluWith .or (s.get8 .h) 4 s

/-- `OR L` (R141). -/
def exec_or_l (s : State) : Result := aluWith .or (s.get8 .l) 4 s

/-- `OR (HL)` (R142). -/
def exec_or_mhl (s : State) : Result := aluMem .or s

/-- `OR A` (R141). -/
def exec_or_a (s : State) : Result := aluWith .or (s.get8 .a) 4 s

/-- `CP B` (R144). -/
def exec_cp_b (s : State) : Result := aluWith .cp (s.get8 .b) 4 s

/-- `CP C` (R144). -/
def exec_cp_c (s : State) : Result := aluWith .cp (s.get8 .c) 4 s

/-- `CP D` (R144). -/
def exec_cp_d (s : State) : Result := aluWith .cp (s.get8 .d) 4 s

/-- `CP E` (R144). -/
def exec_cp_e (s : State) : Result := aluWith .cp (s.get8 .e) 4 s

/-- `CP H` (R144). -/
def exec_cp_h (s : State) : Result := aluWith .cp (s.get8 .h) 4 s

/-- `CP L` (R144). -/
def exec_cp_l (s : State) : Result := aluWith .cp (s.get8 .l) 4 s

/-- `CP (HL)` (R145). -/
def exec_cp_mhl (s : State) : Result := aluMem .cp s

/-- `CP A` (R144). -/
def exec_cp_a (s : State) : Result := aluWith .cp (s.get8 .a) 4 s

/-- `ADD A,n` (R125). -/
def exec_add_a_n (n : Byte) (s : State) : Result := aluWith .add n 8 s

/-- `ADC A,n` (R128). -/
def exec_adc_a_n (n : Byte) (s : State) : Result := aluWith .adc n 8 s

/-- `SUB n` (R131). -/
def exec_sub_n (n : Byte) (s : State) : Result := aluWith .sub n 8 s

/-- `SBC A,n` (R134). -/
def exec_sbc_a_n (n : Byte) (s : State) : Result := aluWith .sbc n 8 s

/-- `AND n` (R137). -/
def exec_and_n (n : Byte) (s : State) : Result := aluWith .and n 8 s

/-- `XOR n` (R140). -/
def exec_xor_n (n : Byte) (s : State) : Result := aluWith .xor n 8 s

/-- `OR n` (R143). -/
def exec_or_n (n : Byte) (s : State) : Result := aluWith .or n 8 s

/-- `CP n` (R146). -/
def exec_cp_n (n : Byte) (s : State) : Result := aluWith .cp n 8 s

end Sys2Proof.Machine
end

