-- ==== Sys2Proof/Machine/Bit.lean ====
section
/-! DEFINITION. BIT, RES and SET (43 R181 to R186). -/

namespace Sys2Proof.Machine

/-- The flags of BIT (R181): Z the complement of bit `k` of `v`, N = 0, H = 1, C unchanged. -/
def State.testBit (s : State) (k : Nat) (v : Byte) : State := s.setFlags (!v.getLsbD k) false true s.flagC

/-- `BIT b,r`, 8 cycles (R181). -/
def bitReg (k : Nat) (r : Reg8) (s : State) : Result := .next ((s.testBit k (s.get8 r)).tick 8)

/-- `BIT b,(HL)`, 12 cycles (R182): one read, no write. -/
def bitMem (k : Nat) (s : State) : Result := .next (((s.afterLoad s.hl).testBit k (s.loadByte s.hl)).tick 12)

/-- A register with bit `k` written, 8 cycles (R183, R185). -/
def writeBitReg (v : Bool) (k : Nat) (r : Reg8) (s : State) : Result :=
  .next ((s.set8 r (withBit (s.get8 r) k v)).tick 8)

/-- The byte at HL with bit `k` written, 16 cycles (R184, R186): read, then write. -/
def writeBitMem (v : Bool) (k : Nat) (s : State) : Result :=
  seq ((s.afterLoad s.hl).store s.hl (withBit (s.loadByte s.hl) k v)) fun t => .next (t.tick 16)

/-- `RES b,r` (R183). -/
def resReg (k : Nat) (r : Reg8) (s : State) : Result := writeBitReg false k r s
/-- `RES b,(HL)` (R184). -/
def resMem (k : Nat) (s : State) : Result := writeBitMem false k s
/-- `SET b,r` (R185). -/
def setReg (k : Nat) (r : Reg8) (s : State) : Result := writeBitReg true k r s
/-- `SET b,(HL)` (R186). -/
def setMem (k : Nat) (s : State) : Result := writeBitMem true k s

/-! ## One meaning per row of the opcode table -/

/-- `BIT 0,B` (R181). -/
def exec_bit_0_b (s : State) : Result := bitReg 0 .b s

/-- `BIT 0,C` (R181). -/
def exec_bit_0_c (s : State) : Result := bitReg 0 .c s

/-- `BIT 0,D` (R181). -/
def exec_bit_0_d (s : State) : Result := bitReg 0 .d s

/-- `BIT 0,E` (R181). -/
def exec_bit_0_e (s : State) : Result := bitReg 0 .e s

/-- `BIT 0,H` (R181). -/
def exec_bit_0_h (s : State) : Result := bitReg 0 .h s

/-- `BIT 0,L` (R181). -/
def exec_bit_0_l (s : State) : Result := bitReg 0 .l s

/-- `BIT 0,(HL)` (R182). -/
def exec_bit_0_mhl (s : State) : Result := bitMem 0 s

/-- `BIT 0,A` (R181). -/
def exec_bit_0_a (s : State) : Result := bitReg 0 .a s

/-- `BIT 1,B` (R181). -/
def exec_bit_1_b (s : State) : Result := bitReg 1 .b s

/-- `BIT 1,C` (R181). -/
def exec_bit_1_c (s : State) : Result := bitReg 1 .c s

/-- `BIT 1,D` (R181). -/
def exec_bit_1_d (s : State) : Result := bitReg 1 .d s

/-- `BIT 1,E` (R181). -/
def exec_bit_1_e (s : State) : Result := bitReg 1 .e s

/-- `BIT 1,H` (R181). -/
def exec_bit_1_h (s : State) : Result := bitReg 1 .h s

/-- `BIT 1,L` (R181). -/
def exec_bit_1_l (s : State) : Result := bitReg 1 .l s

/-- `BIT 1,(HL)` (R182). -/
def exec_bit_1_mhl (s : State) : Result := bitMem 1 s

/-- `BIT 1,A` (R181). -/
def exec_bit_1_a (s : State) : Result := bitReg 1 .a s

/-- `BIT 2,B` (R181). -/
def exec_bit_2_b (s : State) : Result := bitReg 2 .b s

/-- `BIT 2,C` (R181). -/
def exec_bit_2_c (s : State) : Result := bitReg 2 .c s

/-- `BIT 2,D` (R181). -/
def exec_bit_2_d (s : State) : Result := bitReg 2 .d s

/-- `BIT 2,E` (R181). -/
def exec_bit_2_e (s : State) : Result := bitReg 2 .e s

/-- `BIT 2,H` (R181). -/
def exec_bit_2_h (s : State) : Result := bitReg 2 .h s

/-- `BIT 2,L` (R181). -/
def exec_bit_2_l (s : State) : Result := bitReg 2 .l s

/-- `BIT 2,(HL)` (R182). -/
def exec_bit_2_mhl (s : State) : Result := bitMem 2 s

/-- `BIT 2,A` (R181). -/
def exec_bit_2_a (s : State) : Result := bitReg 2 .a s

/-- `BIT 3,B` (R181). -/
def exec_bit_3_b (s : State) : Result := bitReg 3 .b s

/-- `BIT 3,C` (R181). -/
def exec_bit_3_c (s : State) : Result := bitReg 3 .c s

/-- `BIT 3,D` (R181). -/
def exec_bit_3_d (s : State) : Result := bitReg 3 .d s

/-- `BIT 3,E` (R181). -/
def exec_bit_3_e (s : State) : Result := bitReg 3 .e s

/-- `BIT 3,H` (R181). -/
def exec_bit_3_h (s : State) : Result := bitReg 3 .h s

/-- `BIT 3,L` (R181). -/
def exec_bit_3_l (s : State) : Result := bitReg 3 .l s

/-- `BIT 3,(HL)` (R182). -/
def exec_bit_3_mhl (s : State) : Result := bitMem 3 s

/-- `BIT 3,A` (R181). -/
def exec_bit_3_a (s : State) : Result := bitReg 3 .a s

/-- `BIT 4,B` (R181). -/
def exec_bit_4_b (s : State) : Result := bitReg 4 .b s

/-- `BIT 4,C` (R181). -/
def exec_bit_4_c (s : State) : Result := bitReg 4 .c s

/-- `BIT 4,D` (R181). -/
def exec_bit_4_d (s : State) : Result := bitReg 4 .d s

/-- `BIT 4,E` (R181). -/
def exec_bit_4_e (s : State) : Result := bitReg 4 .e s

/-- `BIT 4,H` (R181). -/
def exec_bit_4_h (s : State) : Result := bitReg 4 .h s

/-- `BIT 4,L` (R181). -/
def exec_bit_4_l (s : State) : Result := bitReg 4 .l s

/-- `BIT 4,(HL)` (R182). -/
def exec_bit_4_mhl (s : State) : Result := bitMem 4 s

/-- `BIT 4,A` (R181). -/
def exec_bit_4_a (s : State) : Result := bitReg 4 .a s

/-- `BIT 5,B` (R181). -/
def exec_bit_5_b (s : State) : Result := bitReg 5 .b s

/-- `BIT 5,C` (R181). -/
def exec_bit_5_c (s : State) : Result := bitReg 5 .c s

/-- `BIT 5,D` (R181). -/
def exec_bit_5_d (s : State) : Result := bitReg 5 .d s

/-- `BIT 5,E` (R181). -/
def exec_bit_5_e (s : State) : Result := bitReg 5 .e s

/-- `BIT 5,H` (R181). -/
def exec_bit_5_h (s : State) : Result := bitReg 5 .h s

/-- `BIT 5,L` (R181). -/
def exec_bit_5_l (s : State) : Result := bitReg 5 .l s

/-- `BIT 5,(HL)` (R182). -/
def exec_bit_5_mhl (s : State) : Result := bitMem 5 s

/-- `BIT 5,A` (R181). -/
def exec_bit_5_a (s : State) : Result := bitReg 5 .a s

/-- `BIT 6,B` (R181). -/
def exec_bit_6_b (s : State) : Result := bitReg 6 .b s

/-- `BIT 6,C` (R181). -/
def exec_bit_6_c (s : State) : Result := bitReg 6 .c s

/-- `BIT 6,D` (R181). -/
def exec_bit_6_d (s : State) : Result := bitReg 6 .d s

/-- `BIT 6,E` (R181). -/
def exec_bit_6_e (s : State) : Result := bitReg 6 .e s

/-- `BIT 6,H` (R181). -/
def exec_bit_6_h (s : State) : Result := bitReg 6 .h s

/-- `BIT 6,L` (R181). -/
def exec_bit_6_l (s : State) : Result := bitReg 6 .l s

/-- `BIT 6,(HL)` (R182). -/
def exec_bit_6_mhl (s : State) : Result := bitMem 6 s

/-- `BIT 6,A` (R181). -/
def exec_bit_6_a (s : State) : Result := bitReg 6 .a s

/-- `BIT 7,B` (R181). -/
def exec_bit_7_b (s : State) : Result := bitReg 7 .b s

/-- `BIT 7,C` (R181). -/
def exec_bit_7_c (s : State) : Result := bitReg 7 .c s

/-- `BIT 7,D` (R181). -/
def exec_bit_7_d (s : State) : Result := bitReg 7 .d s

/-- `BIT 7,E` (R181). -/
def exec_bit_7_e (s : State) : Result := bitReg 7 .e s

/-- `BIT 7,H` (R181). -/
def exec_bit_7_h (s : State) : Result := bitReg 7 .h s

/-- `BIT 7,L` (R181). -/
def exec_bit_7_l (s : State) : Result := bitReg 7 .l s

/-- `BIT 7,(HL)` (R182). -/
def exec_bit_7_mhl (s : State) : Result := bitMem 7 s

/-- `BIT 7,A` (R181). -/
def exec_bit_7_a (s : State) : Result := bitReg 7 .a s

/-- `RES 0,B` (R183). -/
def exec_res_0_b (s : State) : Result := resReg 0 .b s

/-- `RES 0,C` (R183). -/
def exec_res_0_c (s : State) : Result := resReg 0 .c s

/-- `RES 0,D` (R183). -/
def exec_res_0_d (s : State) : Result := resReg 0 .d s

/-- `RES 0,E` (R183). -/
def exec_res_0_e (s : State) : Result := resReg 0 .e s

/-- `RES 0,H` (R183). -/
def exec_res_0_h (s : State) : Result := resReg 0 .h s

/-- `RES 0,L` (R183). -/
def exec_res_0_l (s : State) : Result := resReg 0 .l s

/-- `RES 0,(HL)` (R184). -/
def exec_res_0_mhl (s : State) : Result := resMem 0 s

/-- `RES 0,A` (R183). -/
def exec_res_0_a (s : State) : Result := resReg 0 .a s

/-- `RES 1,B` (R183). -/
def exec_res_1_b (s : State) : Result := resReg 1 .b s

/-- `RES 1,C` (R183). -/
def exec_res_1_c (s : State) : Result := resReg 1 .c s

/-- `RES 1,D` (R183). -/
def exec_res_1_d (s : State) : Result := resReg 1 .d s

/-- `RES 1,E` (R183). -/
def exec_res_1_e (s : State) : Result := resReg 1 .e s

/-- `RES 1,H` (R183). -/
def exec_res_1_h (s : State) : Result := resReg 1 .h s

/-- `RES 1,L` (R183). -/
def exec_res_1_l (s : State) : Result := resReg 1 .l s

/-- `RES 1,(HL)` (R184). -/
def exec_res_1_mhl (s : State) : Result := resMem 1 s

/-- `RES 1,A` (R183). -/
def exec_res_1_a (s : State) : Result := resReg 1 .a s

/-- `RES 2,B` (R183). -/
def exec_res_2_b (s : State) : Result := resReg 2 .b s

/-- `RES 2,C` (R183). -/
def exec_res_2_c (s : State) : Result := resReg 2 .c s

/-- `RES 2,D` (R183). -/
def exec_res_2_d (s : State) : Result := resReg 2 .d s

/-- `RES 2,E` (R183). -/
def exec_res_2_e (s : State) : Result := resReg 2 .e s

/-- `RES 2,H` (R183). -/
def exec_res_2_h (s : State) : Result := resReg 2 .h s

/-- `RES 2,L` (R183). -/
def exec_res_2_l (s : State) : Result := resReg 2 .l s

/-- `RES 2,(HL)` (R184). -/
def exec_res_2_mhl (s : State) : Result := resMem 2 s

/-- `RES 2,A` (R183). -/
def exec_res_2_a (s : State) : Result := resReg 2 .a s

/-- `RES 3,B` (R183). -/
def exec_res_3_b (s : State) : Result := resReg 3 .b s

/-- `RES 3,C` (R183). -/
def exec_res_3_c (s : State) : Result := resReg 3 .c s

/-- `RES 3,D` (R183). -/
def exec_res_3_d (s : State) : Result := resReg 3 .d s

/-- `RES 3,E` (R183). -/
def exec_res_3_e (s : State) : Result := resReg 3 .e s

/-- `RES 3,H` (R183). -/
def exec_res_3_h (s : State) : Result := resReg 3 .h s

/-- `RES 3,L` (R183). -/
def exec_res_3_l (s : State) : Result := resReg 3 .l s

/-- `RES 3,(HL)` (R184). -/
def exec_res_3_mhl (s : State) : Result := resMem 3 s

/-- `RES 3,A` (R183). -/
def exec_res_3_a (s : State) : Result := resReg 3 .a s

/-- `RES 4,B` (R183). -/
def exec_res_4_b (s : State) : Result := resReg 4 .b s

/-- `RES 4,C` (R183). -/
def exec_res_4_c (s : State) : Result := resReg 4 .c s

/-- `RES 4,D` (R183). -/
def exec_res_4_d (s : State) : Result := resReg 4 .d s

/-- `RES 4,E` (R183). -/
def exec_res_4_e (s : State) : Result := resReg 4 .e s

/-- `RES 4,H` (R183). -/
def exec_res_4_h (s : State) : Result := resReg 4 .h s

/-- `RES 4,L` (R183). -/
def exec_res_4_l (s : State) : Result := resReg 4 .l s

/-- `RES 4,(HL)` (R184). -/
def exec_res_4_mhl (s : State) : Result := resMem 4 s

/-- `RES 4,A` (R183). -/
def exec_res_4_a (s : State) : Result := resReg 4 .a s

/-- `RES 5,B` (R183). -/
def exec_res_5_b (s : State) : Result := resReg 5 .b s

/-- `RES 5,C` (R183). -/
def exec_res_5_c (s : State) : Result := resReg 5 .c s

/-- `RES 5,D` (R183). -/
def exec_res_5_d (s : State) : Result := resReg 5 .d s

/-- `RES 5,E` (R183). -/
def exec_res_5_e (s : State) : Result := resReg 5 .e s

/-- `RES 5,H` (R183). -/
def exec_res_5_h (s : State) : Result := resReg 5 .h s

/-- `RES 5,L` (R183). -/
def exec_res_5_l (s : State) : Result := resReg 5 .l s

/-- `RES 5,(HL)` (R184). -/
def exec_res_5_mhl (s : State) : Result := resMem 5 s

/-- `RES 5,A` (R183). -/
def exec_res_5_a (s : State) : Result := resReg 5 .a s

/-- `RES 6,B` (R183). -/
def exec_res_6_b (s : State) : Result := resReg 6 .b s

/-- `RES 6,C` (R183). -/
def exec_res_6_c (s : State) : Result := resReg 6 .c s

/-- `RES 6,D` (R183). -/
def exec_res_6_d (s : State) : Result := resReg 6 .d s

/-- `RES 6,E` (R183). -/
def exec_res_6_e (s : State) : Result := resReg 6 .e s

/-- `RES 6,H` (R183). -/
def exec_res_6_h (s : State) : Result := resReg 6 .h s

/-- `RES 6,L` (R183). -/
def exec_res_6_l (s : State) : Result := resReg 6 .l s

/-- `RES 6,(HL)` (R184). -/
def exec_res_6_mhl (s : State) : Result := resMem 6 s

/-- `RES 6,A` (R183). -/
def exec_res_6_a (s : State) : Result := resReg 6 .a s

/-- `RES 7,B` (R183). -/
def exec_res_7_b (s : State) : Result := resReg 7 .b s

/-- `RES 7,C` (R183). -/
def exec_res_7_c (s : State) : Result := resReg 7 .c s

/-- `RES 7,D` (R183). -/
def exec_res_7_d (s : State) : Result := resReg 7 .d s

/-- `RES 7,E` (R183). -/
def exec_res_7_e (s : State) : Result := resReg 7 .e s

/-- `RES 7,H` (R183). -/
def exec_res_7_h (s : State) : Result := resReg 7 .h s

/-- `RES 7,L` (R183). -/
def exec_res_7_l (s : State) : Result := resReg 7 .l s

/-- `RES 7,(HL)` (R184). -/
def exec_res_7_mhl (s : State) : Result := resMem 7 s

/-- `RES 7,A` (R183). -/
def exec_res_7_a (s : State) : Result := resReg 7 .a s

/-- `SET 0,B` (R185). -/
def exec_set_0_b (s : State) : Result := setReg 0 .b s

/-- `SET 0,C` (R185). -/
def exec_set_0_c (s : State) : Result := setReg 0 .c s

/-- `SET 0,D` (R185). -/
def exec_set_0_d (s : State) : Result := setReg 0 .d s

/-- `SET 0,E` (R185). -/
def exec_set_0_e (s : State) : Result := setReg 0 .e s

/-- `SET 0,H` (R185). -/
def exec_set_0_h (s : State) : Result := setReg 0 .h s

/-- `SET 0,L` (R185). -/
def exec_set_0_l (s : State) : Result := setReg 0 .l s

/-- `SET 0,(HL)` (R186). -/
def exec_set_0_mhl (s : State) : Result := setMem 0 s

/-- `SET 0,A` (R185). -/
def exec_set_0_a (s : State) : Result := setReg 0 .a s

/-- `SET 1,B` (R185). -/
def exec_set_1_b (s : State) : Result := setReg 1 .b s

/-- `SET 1,C` (R185). -/
def exec_set_1_c (s : State) : Result := setReg 1 .c s

/-- `SET 1,D` (R185). -/
def exec_set_1_d (s : State) : Result := setReg 1 .d s

/-- `SET 1,E` (R185). -/
def exec_set_1_e (s : State) : Result := setReg 1 .e s

/-- `SET 1,H` (R185). -/
def exec_set_1_h (s : State) : Result := setReg 1 .h s

/-- `SET 1,L` (R185). -/
def exec_set_1_l (s : State) : Result := setReg 1 .l s

/-- `SET 1,(HL)` (R186). -/
def exec_set_1_mhl (s : State) : Result := setMem 1 s

/-- `SET 1,A` (R185). -/
def exec_set_1_a (s : State) : Result := setReg 1 .a s

/-- `SET 2,B` (R185). -/
def exec_set_2_b (s : State) : Result := setReg 2 .b s

/-- `SET 2,C` (R185). -/
def exec_set_2_c (s : State) : Result := setReg 2 .c s

/-- `SET 2,D` (R185). -/
def exec_set_2_d (s : State) : Result := setReg 2 .d s

/-- `SET 2,E` (R185). -/
def exec_set_2_e (s : State) : Result := setReg 2 .e s

/-- `SET 2,H` (R185). -/
def exec_set_2_h (s : State) : Result := setReg 2 .h s

/-- `SET 2,L` (R185). -/
def exec_set_2_l (s : State) : Result := setReg 2 .l s

/-- `SET 2,(HL)` (R186). -/
def exec_set_2_mhl (s : State) : Result := setMem 2 s

/-- `SET 2,A` (R185). -/
def exec_set_2_a (s : State) : Result := setReg 2 .a s

/-- `SET 3,B` (R185). -/
def exec_set_3_b (s : State) : Result := setReg 3 .b s

/-- `SET 3,C` (R185). -/
def exec_set_3_c (s : State) : Result := setReg 3 .c s

/-- `SET 3,D` (R185). -/
def exec_set_3_d (s : State) : Result := setReg 3 .d s

/-- `SET 3,E` (R185). -/
def exec_set_3_e (s : State) : Result := setReg 3 .e s

/-- `SET 3,H` (R185). -/
def exec_set_3_h (s : State) : Result := setReg 3 .h s

/-- `SET 3,L` (R185). -/
def exec_set_3_l (s : State) : Result := setReg 3 .l s

/-- `SET 3,(HL)` (R186). -/
def exec_set_3_mhl (s : State) : Result := setMem 3 s

/-- `SET 3,A` (R185). -/
def exec_set_3_a (s : State) : Result := setReg 3 .a s

/-- `SET 4,B` (R185). -/
def exec_set_4_b (s : State) : Result := setReg 4 .b s

/-- `SET 4,C` (R185). -/
def exec_set_4_c (s : State) : Result := setReg 4 .c s

/-- `SET 4,D` (R185). -/
def exec_set_4_d (s : State) : Result := setReg 4 .d s

/-- `SET 4,E` (R185). -/
def exec_set_4_e (s : State) : Result := setReg 4 .e s

/-- `SET 4,H` (R185). -/
def exec_set_4_h (s : State) : Result := setReg 4 .h s

/-- `SET 4,L` (R185). -/
def exec_set_4_l (s : State) : Result := setReg 4 .l s

/-- `SET 4,(HL)` (R186). -/
def exec_set_4_mhl (s : State) : Result := setMem 4 s

/-- `SET 4,A` (R185). -/
def exec_set_4_a (s : State) : Result := setReg 4 .a s

/-- `SET 5,B` (R185). -/
def exec_set_5_b (s : State) : Result := setReg 5 .b s

/-- `SET 5,C` (R185). -/
def exec_set_5_c (s : State) : Result := setReg 5 .c s

/-- `SET 5,D` (R185). -/
def exec_set_5_d (s : State) : Result := setReg 5 .d s

/-- `SET 5,E` (R185). -/
def exec_set_5_e (s : State) : Result := setReg 5 .e s

/-- `SET 5,H` (R185). -/
def exec_set_5_h (s : State) : Result := setReg 5 .h s

/-- `SET 5,L` (R185). -/
def exec_set_5_l (s : State) : Result := setReg 5 .l s

/-- `SET 5,(HL)` (R186). -/
def exec_set_5_mhl (s : State) : Result := setMem 5 s

/-- `SET 5,A` (R185). -/
def exec_set_5_a (s : State) : Result := setReg 5 .a s

/-- `SET 6,B` (R185). -/
def exec_set_6_b (s : State) : Result := setReg 6 .b s

/-- `SET 6,C` (R185). -/
def exec_set_6_c (s : State) : Result := setReg 6 .c s

/-- `SET 6,D` (R185). -/
def exec_set_6_d (s : State) : Result := setReg 6 .d s

/-- `SET 6,E` (R185). -/
def exec_set_6_e (s : State) : Result := setReg 6 .e s

/-- `SET 6,H` (R185). -/
def exec_set_6_h (s : State) : Result := setReg 6 .h s

/-- `SET 6,L` (R185). -/
def exec_set_6_l (s : State) : Result := setReg 6 .l s

/-- `SET 6,(HL)` (R186). -/
def exec_set_6_mhl (s : State) : Result := setMem 6 s

/-- `SET 6,A` (R185). -/
def exec_set_6_a (s : State) : Result := setReg 6 .a s

/-- `SET 7,B` (R185). -/
def exec_set_7_b (s : State) : Result := setReg 7 .b s

/-- `SET 7,C` (R185). -/
def exec_set_7_c (s : State) : Result := setReg 7 .c s

/-- `SET 7,D` (R185). -/
def exec_set_7_d (s : State) : Result := setReg 7 .d s

/-- `SET 7,E` (R185). -/
def exec_set_7_e (s : State) : Result := setReg 7 .e s

/-- `SET 7,H` (R185). -/
def exec_set_7_h (s : State) : Result := setReg 7 .h s

/-- `SET 7,L` (R185). -/
def exec_set_7_l (s : State) : Result := setReg 7 .l s

/-- `SET 7,(HL)` (R186). -/
def exec_set_7_mhl (s : State) : Result := setMem 7 s

/-- `SET 7,A` (R185). -/
def exec_set_7_a (s : State) : Result := setReg 7 .a s

end Sys2Proof.Machine
end

