-- ==== Sys2Proof/WellFormed.lean ====
section
/-! DEFINITION. Which terms of `Instr` are instructions the decoder answers. Every operand is a bit field or a byte, so
every value of every operand is legal (30_encoding R90). The one check: the row of the prefix byte 0xCB is no
instruction by itself, because the words it begins are the rows of R88 (R82, R86; log 13). -/

namespace Sys2Proof

/-- The row PREFIX CB by itself (30_encoding R82). -/
def Instr.isPrefix : Instr → Bool
  | .prefix_cb _ => true
  | _ => false

/-- A well-formed instruction: any row but the bare prefix. -/
def Instr.wf (i : Instr) : Bool := !i.isPrefix

end Sys2Proof
end

