-- ==== Sys2Proof/Machine/Shift.lean ====
section
/-! DEFINITION. The accumulator rotates and the CB rotates and shifts (43 R160 to R180). -/

namespace Sys2Proof.Machine

/-- RLCA, RRCA, RLA and RRA, 4 cycles (R160 to R163): the shift function of R164 on A, with Z = 0 always. -/
def rotateAccumulator (op : ShiftOp) (s : State) : Result :=
  let r := shiftOut op s.a s.flagC
  .next (({ s with a := r.1 }.setFlags false false false r.2).tick 4)

/-- A CB shift of a register, 8 cycles (R164). -/
def shiftReg (op : ShiftOp) (r : Reg8) (s : State) : Result :=
  let o := shiftAlu op (s.get8 r) s.flagC
  .next (((s.set8 r o.res).setAluFlags o).tick 8)

/-- A CB shift of the byte at HL, 16 cycles (R164). -/
def shiftMem (op : ShiftOp) (s : State) : Result := s.replaceAtHl (shiftAlu op (s.loadByte s.hl) s.flagC) 16

/-! ## One meaning per row of the opcode table -/

/-- `RLCA` (R160). -/
def exec_rlca (s : State) : Result := rotateAccumulator .rlc s

/-- `RRCA` (R161). -/
def exec_rrca (s : State) : Result := rotateAccumulator .rrc s

/-- `RLA` (R162). -/
def exec_rla (s : State) : Result := rotateAccumulator .rl s

/-- `RRA` (R163). -/
def exec_rra (s : State) : Result := rotateAccumulator .rr s

/-- `RLC B` (R165). -/
def exec_rlc_b (s : State) : Result := shiftReg .rlc .b s

/-- `RLC C` (R165). -/
def exec_rlc_c (s : State) : Result := shiftReg .rlc .c s

/-- `RLC D` (R165). -/
def exec_rlc_d (s : State) : Result := shiftReg .rlc .d s

/-- `RLC E` (R165). -/
def exec_rlc_e (s : State) : Result := shiftReg .rlc .e s

/-- `RLC H` (R165). -/
def exec_rlc_h (s : State) : Result := shiftReg .rlc .h s

/-- `RLC L` (R165). -/
def exec_rlc_l (s : State) : Result := shiftReg .rlc .l s

/-- `RLC (HL)` (R166). -/
def exec_rlc_mhl (s : State) : Result := shiftMem .rlc s

/-- `RLC A` (R165). -/
def exec_rlc_a (s : State) : Result := shiftReg .rlc .a s

/-- `RRC B` (R167). -/
def exec_rrc_b (s : State) : Result := shiftReg .rrc .b s

/-- `RRC C` (R167). -/
def exec_rrc_c (s : State) : Result := shiftReg .rrc .c s

/-- `RRC D` (R167). -/
def exec_rrc_d (s : State) : Result := shiftReg .rrc .d s

/-- `RRC E` (R167). -/
def exec_rrc_e (s : State) : Result := shiftReg .rrc .e s

/-- `RRC H` (R167). -/
def exec_rrc_h (s : State) : Result := shiftReg .rrc .h s

/-- `RRC L` (R167). -/
def exec_rrc_l (s : State) : Result := shiftReg .rrc .l s

/-- `RRC (HL)` (R168). -/
def exec_rrc_mhl (s : State) : Result := shiftMem .rrc s

/-- `RRC A` (R167). -/
def exec_rrc_a (s : State) : Result := shiftReg .rrc .a s

/-- `RL B` (R169). -/
def exec_rl_b (s : State) : Result := shiftReg .rl .b s

/-- `RL C` (R169). -/
def exec_rl_c (s : State) : Result := shiftReg .rl .c s

/-- `RL D` (R169). -/
def exec_rl_d (s : State) : Result := shiftReg .rl .d s

/-- `RL E` (R169). -/
def exec_rl_e (s : State) : Result := shiftReg .rl .e s

/-- `RL H` (R169). -/
def exec_rl_h (s : State) : Result := shiftReg .rl .h s

/-- `RL L` (R169). -/
def exec_rl_l (s : State) : Result := shiftReg .rl .l s

/-- `RL (HL)` (R170). -/
def exec_rl_mhl (s : State) : Result := shiftMem .rl s

/-- `RL A` (R169). -/
def exec_rl_a (s : State) : Result := shiftReg .rl .a s

/-- `RR B` (R171). -/
def exec_rr_b (s : State) : Result := shiftReg .rr .b s

/-- `RR C` (R171). -/
def exec_rr_c (s : State) : Result := shiftReg .rr .c s

/-- `RR D` (R171). -/
def exec_rr_d (s : State) : Result := shiftReg .rr .d s

/-- `RR E` (R171). -/
def exec_rr_e (s : State) : Result := shiftReg .rr .e s

/-- `RR H` (R171). -/
def exec_rr_h (s : State) : Result := shiftReg .rr .h s

/-- `RR L` (R171). -/
def exec_rr_l (s : State) : Result := shiftReg .rr .l s

/-- `RR (HL)` (R172). -/
def exec_rr_mhl (s : State) : Result := shiftMem .rr s

/-- `RR A` (R171). -/
def exec_rr_a (s : State) : Result := shiftReg .rr .a s

/-- `SLA B` (R173). -/
def exec_sla_b (s : State) : Result := shiftReg .sla .b s

/-- `SLA C` (R173). -/
def exec_sla_c (s : State) : Result := shiftReg .sla .c s

/-- `SLA D` (R173). -/
def exec_sla_d (s : State) : Result := shiftReg .sla .d s

/-- `SLA E` (R173). -/
def exec_sla_e (s : State) : Result := shiftReg .sla .e s

/-- `SLA H` (R173). -/
def exec_sla_h (s : State) : Result := shiftReg .sla .h s

/-- `SLA L` (R173). -/
def exec_sla_l (s : State) : Result := shiftReg .sla .l s

/-- `SLA (HL)` (R174). -/
def exec_sla_mhl (s : State) : Result := shiftMem .sla s

/-- `SLA A` (R173). -/
def exec_sla_a (s : State) : Result := shiftReg .sla .a s

/-- `SRA B` (R175). -/
def exec_sra_b (s : State) : Result := shiftReg .sra .b s

/-- `SRA C` (R175). -/
def exec_sra_c (s : State) : Result := shiftReg .sra .c s

/-- `SRA D` (R175). -/
def exec_sra_d (s : State) : Result := shiftReg .sra .d s

/-- `SRA E` (R175). -/
def exec_sra_e (s : State) : Result := shiftReg .sra .e s

/-- `SRA H` (R175). -/
def exec_sra_h (s : State) : Result := shiftReg .sra .h s

/-- `SRA L` (R175). -/
def exec_sra_l (s : State) : Result := shiftReg .sra .l s

/-- `SRA (HL)` (R176). -/
def exec_sra_mhl (s : State) : Result := shiftMem .sra s

/-- `SRA A` (R175). -/
def exec_sra_a (s : State) : Result := shiftReg .sra .a s

/-- `SWAP B` (R177). -/
def exec_swap_b (s : State) : Result := shiftReg .swap .b s

/-- `SWAP C` (R177). -/
def exec_swap_c (s : State) : Result := shiftReg .swap .c s

/-- `SWAP D` (R177). -/
def exec_swap_d (s : State) : Result := shiftReg .swap .d s

/-- `SWAP E` (R177). -/
def exec_swap_e (s : State) : Result := shiftReg .swap .e s

/-- `SWAP H` (R177). -/
def exec_swap_h (s : State) : Result := shiftReg .swap .h s

/-- `SWAP L` (R177). -/
def exec_swap_l (s : State) : Result := shiftReg .swap .l s

/-- `SWAP (HL)` (R178). -/
def exec_swap_mhl (s : State) : Result := shiftMem .swap s

/-- `SWAP A` (R177). -/
def exec_swap_a (s : State) : Result := shiftReg .swap .a s

/-- `SRL B` (R179). -/
def exec_srl_b (s : State) : Result := shiftReg .srl .b s

/-- `SRL C` (R179). -/
def exec_srl_c (s : State) : Result := shiftReg .srl .c s

/-- `SRL D` (R179). -/
def exec_srl_d (s : State) : Result := shiftReg .srl .d s

/-- `SRL E` (R179). -/
def exec_srl_e (s : State) : Result := shiftReg .srl .e s

/-- `SRL H` (R179). -/
def exec_srl_h (s : State) : Result := shiftReg .srl .h s

/-- `SRL L` (R179). -/
def exec_srl_l (s : State) : Result := shiftReg .srl .l s

/-- `SRL (HL)` (R180). -/
def exec_srl_mhl (s : State) : Result := shiftMem .srl s

/-- `SRL A` (R179). -/
def exec_srl_a (s : State) : Result := shiftReg .srl .a s

end Sys2Proof.Machine
end

