-- ==== Sys2Proof/Machine/Cb.lean ====
section
/-! DEFINITION. The row of the prefix byte 0xCB (30_encoding R82): the rule of the CB-table row of its second byte. -/

namespace Sys2Proof.Machine

/-- The rule of the CB-table row for `op2` (R82, R88). -/
def cbRow (op2 : Byte) (s : State) : Result :=
  let y := fieldY op2
  match (fieldX op2).toNat, regField (fieldZ op2) with
  | 0, some r => shiftReg (shiftField y) r s
  | 0, none => shiftMem (shiftField y) s
  | 1, some r => bitReg y.toNat r s
  | 1, none => bitMem y.toNat s
  | 2, some r => resReg y.toNat r s
  | 2, none => resMem y.toNat s
  | _, some r => setReg y.toNat r s
  | _, none => setMem y.toNat s

/-! ## One meaning per row of the opcode table -/

/-- `PREFIX CB` (R82). -/
def exec_prefix_cb (op2 : Byte) (s : State) : Result := cbRow op2 s

end Sys2Proof.Machine
end

