-- ==== Sys2Proof/Machine/Control.lean ====
section
/-! DEFINITION. Control transfer (44_control R187 to R197). -/

namespace Sys2Proof.Machine

/-- A conditional jump: `if cond(cc): PC <- target`, with the cost of the path (R188, R191). -/
def jumpIf (cc : Cond) (target : Word) (notTaken taken : Nat) (s : State) : Result :=
  if s.holds cc then .next ({ s with pc := target }.tick taken) else .next (s.tick notTaken)

/-- `Push16(PC); PC <- target` (R192, R193, R197). -/
def call (target : Word) (cycles : Nat) (s : State) : Result :=
  seq (s.push s.pc) fun t => .next ({ t with pc := target }.tick cycles)

/-! ## One meaning per row of the opcode table -/

/-- `JR e` (R190). -/
def exec_jr_e (e : Byte) (s : State) : Result := .next ({ s with pc := s.relative e }.tick 12)

/-- `JR NZ,e` (R191). -/
def exec_jr_nz_e (e : Byte) (s : State) : Result := jumpIf .nz (s.relative e) 8 12 s

/-- `JR Z,e` (R191). -/
def exec_jr_z_e (e : Byte) (s : State) : Result := jumpIf .z (s.relative e) 8 12 s

/-- `JR NC,e` (R191). -/
def exec_jr_nc_e (e : Byte) (s : State) : Result := jumpIf .nc (s.relative e) 8 12 s

/-- `JR C,e` (R191). -/
def exec_jr_c_e (e : Byte) (s : State) : Result := jumpIf .c (s.relative e) 8 12 s

/-- `RET NZ` (R195). -/
def exec_ret_nz (s : State) : Result := if s.holds .nz then .next (s.returnToCaller.tick 20) else .next (s.tick 8)

/-- `JP NZ,nn` (R188). -/
def exec_jp_nz_nn (nn : Word) (s : State) : Result := jumpIf .nz nn 12 16 s

/-- `JP nn` (R187). -/
def exec_jp_nn (nn : Word) (s : State) : Result := .next ({ s with pc := nn }.tick 16)

/-- `CALL NZ,nn` (R193). -/
def exec_call_nz_nn (nn : Word) (s : State) : Result := if s.holds .nz then call nn 24 s else .next (s.tick 12)

/-- `RST 00H` (R197). -/
def exec_rst_00h (s : State) : Result := call 0x0000 16 s

/-- `RET Z` (R195). -/
def exec_ret_z (s : State) : Result := if s.holds .z then .next (s.returnToCaller.tick 20) else .next (s.tick 8)

/-- `RET` (R194). -/
def exec_ret (s : State) : Result := .next (s.returnToCaller.tick 16)

/-- `JP Z,nn` (R188). -/
def exec_jp_z_nn (nn : Word) (s : State) : Result := jumpIf .z nn 12 16 s

/-- `CALL Z,nn` (R193). -/
def exec_call_z_nn (nn : Word) (s : State) : Result := if s.holds .z then call nn 24 s else .next (s.tick 12)

/-- `CALL nn` (R192). -/
def exec_call_nn (nn : Word) (s : State) : Result := call nn 24 s

/-- `RST 08H` (R197). -/
def exec_rst_08h (s : State) : Result := call 0x0008 16 s

/-- `RET NC` (R195). -/
def exec_ret_nc (s : State) : Result := if s.holds .nc then .next (s.returnToCaller.tick 20) else .next (s.tick 8)

/-- `JP NC,nn` (R188). -/
def exec_jp_nc_nn (nn : Word) (s : State) : Result := jumpIf .nc nn 12 16 s

/-- `CALL NC,nn` (R193). -/
def exec_call_nc_nn (nn : Word) (s : State) : Result := if s.holds .nc then call nn 24 s else .next (s.tick 12)

/-- `RST 10H` (R197). -/
def exec_rst_10h (s : State) : Result := call 0x0010 16 s

/-- `RET C` (R195). -/
def exec_ret_c (s : State) : Result := if s.holds .c then .next (s.returnToCaller.tick 20) else .next (s.tick 8)

/-- `RETI` (R196). -/
def exec_reti (s : State) : Result := .next (s.returnFromInterrupt.tick 16)

/-- `JP C,nn` (R188). -/
def exec_jp_c_nn (nn : Word) (s : State) : Result := jumpIf .c nn 12 16 s

/-- `CALL C,nn` (R193). -/
def exec_call_c_nn (nn : Word) (s : State) : Result := if s.holds .c then call nn 24 s else .next (s.tick 12)

/-- `RST 18H` (R197). -/
def exec_rst_18h (s : State) : Result := call 0x0018 16 s

/-- `RST 20H` (R197). -/
def exec_rst_20h (s : State) : Result := call 0x0020 16 s

/-- `JP (HL)` (R189). -/
def exec_jp_hl (s : State) : Result := .next ({ s with pc := s.hl }.tick 4)

/-- `RST 28H` (R197). -/
def exec_rst_28h (s : State) : Result := call 0x0028 16 s

/-- `RST 30H` (R197). -/
def exec_rst_30h (s : State) : Result := call 0x0030 16 s

/-- `RST 38H` (R197). -/
def exec_rst_38h (s : State) : Result := call 0x0038 16 s

end Sys2Proof.Machine
end

