-- ==== Sys2Proof/Machine/Load.lean ====
section
/-! DEFINITION. The loads, the stores and the stack (40_loads R92 to R113). -/

namespace Sys2Proof.Machine

/-- A register loaded from a register: `r <- r'`, 4 cycles (R92). -/
def ldRegReg (dst r : Reg8) (s : State) : Result := .next ((s.set8 dst (s.get8 r)).tick 4)

/-- A register loaded with an immediate: `r <- n`, 8 cycles (R93). -/
def ldRegImm (dst : Reg8) (n : Byte) (s : State) : Result := .next ((s.set8 dst n).tick 8)

/-- A register loaded from the byte at `addr`: `r <- MemRead(addr, 1)` (R94, R97, R99, R101, R103). -/
def loadReg (dst : Reg8) (addr : Word) (cycles : Nat) (s : State) : Result :=
  .next (((s.afterLoad addr).set8 dst (s.loadByte addr)).tick cycles)

/-- A byte stored at `addr`: `MemWrite(addr, 1, v)` (R95, R96, R98, R100, R102, R104). -/
def State.storeThen (s : State) (addr : Word) (v : Byte) (cycles : Nat) : Result :=
  seq (s.store addr v) fun t => .next (t.tick cycles)

/-- `A <- MemRead(HL, 1); HL <- hl`, 8 cycles (R105, R106). -/
def loadAndMove (hl : Word) (s : State) : Result :=
  .next ((((s.afterLoad s.hl).set8 .a (s.loadByte s.hl)).setHl hl).tick 8)

/-- `MemWrite(HL, 1, A); HL <- hl`, 8 cycles (R107, R108): the write completes before HL changes. -/
def storeAndMove (hl : Word) (s : State) : Result :=
  seq (s.store s.hl s.a) fun t => .next ((t.setHl hl).tick 8)

/-- `rr <- nn`, 12 cycles (R109). -/
def ldPairImm (dst : Reg16) (nn : Word) (s : State) : Result := .next ((s.set16 dst nn).tick 12)

/-- `Push16(qq)`, 16 cycles (R112). -/
def pushPair (q : StackReg) (s : State) : Result := seq (s.push (s.getStack q)) fun t => .next (t.tick 16)

/-- `v <- Pop16()`, then the pair, 12 cycles (R113). -/
def popPair (q : StackReg) (s : State) : Result := .next ((s.afterPop.setStack q s.popValue).tick 12)

/-! ## One meaning per row of the opcode table -/

/-- `LD BC,nn` (R109). -/
def exec_ld_bc_nn (nn : Word) (s : State) : Result := ldPairImm .bc nn s

/-- `LD (BC),A` (R98). -/
def exec_ld_mbc_a (s : State) : Result := s.storeThen s.bc s.a 8

/-- `LD B,n` (R93). -/
def exec_ld_b_n (n : Byte) (s : State) : Result := ldRegImm .b n s

/-- `LD (nn),SP` (R110). -/
def exec_ld_mnn_sp (nn : Word) (s : State) : Result := seq (s.storeWord nn s.sp) fun t => .next (t.tick 20)

/-- `LD A,(BC)` (R97). -/
def exec_ld_a_mbc (s : State) : Result := loadReg .a s.bc 8 s

/-- `LD C,n` (R93). -/
def exec_ld_c_n (n : Byte) (s : State) : Result := ldRegImm .c n s

/-- `LD DE,nn` (R109). -/
def exec_ld_de_nn (nn : Word) (s : State) : Result := ldPairImm .de nn s

/-- `LD (DE),A` (R98). -/
def exec_ld_mde_a (s : State) : Result := s.storeThen s.de s.a 8

/-- `LD D,n` (R93). -/
def exec_ld_d_n (n : Byte) (s : State) : Result := ldRegImm .d n s

/-- `LD A,(DE)` (R97). -/
def exec_ld_a_mde (s : State) : Result := loadReg .a s.de 8 s

/-- `LD E,n` (R93). -/
def exec_ld_e_n (n : Byte) (s : State) : Result := ldRegImm .e n s

/-- `LD HL,nn` (R109). -/
def exec_ld_hl_nn (nn : Word) (s : State) : Result := ldPairImm .hl nn s

/-- `LD (HL+),A` (R107). -/
def exec_ld_mhli_a (s : State) : Result := storeAndMove (s.hl + 1) s

/-- `LD H,n` (R93). -/
def exec_ld_h_n (n : Byte) (s : State) : Result := ldRegImm .h n s

/-- `LD A,(HL+)` (R105). -/
def exec_ld_a_mhli (s : State) : Result := loadAndMove (s.hl + 1) s

/-- `LD L,n` (R93). -/
def exec_ld_l_n (n : Byte) (s : State) : Result := ldRegImm .l n s

/-- `LD SP,nn` (R109). -/
def exec_ld_sp_nn (nn : Word) (s : State) : Result := ldPairImm .sp nn s

/-- `LD (HL-),A` (R108). -/
def exec_ld_mhld_a (s : State) : Result := storeAndMove (s.hl - 1) s

/-- `LD (HL),n` (R96). -/
def exec_ld_mhl_n (n : Byte) (s : State) : Result := s.storeThen s.hl n 12

/-- `LD A,(HL-)` (R106). -/
def exec_ld_a_mhld (s : State) : Result := loadAndMove (s.hl - 1) s

/-- `LD A,n` (R93). -/
def exec_ld_a_n (n : Byte) (s : State) : Result := ldRegImm .a n s

/-- `LD B,B` (R92). -/
def exec_ld_b_b (s : State) : Result := ldRegReg .b .b s

/-- `LD B,C` (R92). -/
def exec_ld_b_c (s : State) : Result := ldRegReg .b .c s

/-- `LD B,D` (R92). -/
def exec_ld_b_d (s : State) : Result := ldRegReg .b .d s

/-- `LD B,E` (R92). -/
def exec_ld_b_e (s : State) : Result := ldRegReg .b .e s

/-- `LD B,H` (R92). -/
def exec_ld_b_h (s : State) : Result := ldRegReg .b .h s

/-- `LD B,L` (R92). -/
def exec_ld_b_l (s : State) : Result := ldRegReg .b .l s

/-- `LD B,(HL)` (R94). -/
def exec_ld_b_mhl (s : State) : Result := loadReg .b s.hl 8 s

/-- `LD B,A` (R92). -/
def exec_ld_b_a (s : State) : Result := ldRegReg .b .a s

/-- `LD C,B` (R92). -/
def exec_ld_c_b (s : State) : Result := ldRegReg .c .b s

/-- `LD C,C` (R92). -/
def exec_ld_c_c (s : State) : Result := ldRegReg .c .c s

/-- `LD C,D` (R92). -/
def exec_ld_c_d (s : State) : Result := ldRegReg .c .d s

/-- `LD C,E` (R92). -/
def exec_ld_c_e (s : State) : Result := ldRegReg .c .e s

/-- `LD C,H` (R92). -/
def exec_ld_c_h (s : State) : Result := ldRegReg .c .h s

/-- `LD C,L` (R92). -/
def exec_ld_c_l (s : State) : Result := ldRegReg .c .l s

/-- `LD C,(HL)` (R94). -/
def exec_ld_c_mhl (s : State) : Result := loadReg .c s.hl 8 s

/-- `LD C,A` (R92). -/
def exec_ld_c_a (s : State) : Result := ldRegReg .c .a s

/-- `LD D,B` (R92). -/
def exec_ld_d_b (s : State) : Result := ldRegReg .d .b s

/-- `LD D,C` (R92). -/
def exec_ld_d_c (s : State) : Result := ldRegReg .d .c s

/-- `LD D,D` (R92). -/
def exec_ld_d_d (s : State) : Result := ldRegReg .d .d s

/-- `LD D,E` (R92). -/
def exec_ld_d_e (s : State) : Result := ldRegReg .d .e s

/-- `LD D,H` (R92). -/
def exec_ld_d_h (s : State) : Result := ldRegReg .d .h s

/-- `LD D,L` (R92). -/
def exec_ld_d_l (s : State) : Result := ldRegReg .d .l s

/-- `LD D,(HL)` (R94). -/
def exec_ld_d_mhl (s : State) : Result := loadReg .d s.hl 8 s

/-- `LD D,A` (R92). -/
def exec_ld_d_a (s : State) : Result := ldRegReg .d .a s

/-- `LD E,B` (R92). -/
def exec_ld_e_b (s : State) : Result := ldRegReg .e .b s

/-- `LD E,C` (R92). -/
def exec_ld_e_c (s : State) : Result := ldRegReg .e .c s

/-- `LD E,D` (R92). -/
def exec_ld_e_d (s : State) : Result := ldRegReg .e .d s

/-- `LD E,E` (R92). -/
def exec_ld_e_e (s : State) : Result := ldRegReg .e .e s

/-- `LD E,H` (R92). -/
def exec_ld_e_h (s : State) : Result := ldRegReg .e .h s

/-- `LD E,L` (R92). -/
def exec_ld_e_l (s : State) : Result := ldRegReg .e .l s

/-- `LD E,(HL)` (R94). -/
def exec_ld_e_mhl (s : State) : Result := loadReg .e s.hl 8 s

/-- `LD E,A` (R92). -/
def exec_ld_e_a (s : State) : Result := ldRegReg .e .a s

/-- `LD H,B` (R92). -/
def exec_ld_h_b (s : State) : Result := ldRegReg .h .b s

/-- `LD H,C` (R92). -/
def exec_ld_h_c (s : State) : Result := ldRegReg .h .c s

/-- `LD H,D` (R92). -/
def exec_ld_h_d (s : State) : Result := ldRegReg .h .d s

/-- `LD H,E` (R92). -/
def exec_ld_h_e (s : State) : Result := ldRegReg .h .e s

/-- `LD H,H` (R92). -/
def exec_ld_h_h (s : State) : Result := ldRegReg .h .h s

/-- `LD H,L` (R92). -/
def exec_ld_h_l (s : State) : Result := ldRegReg .h .l s

/-- `LD H,(HL)` (R94). -/
def exec_ld_h_mhl (s : State) : Result := loadReg .h s.hl 8 s

/-- `LD H,A` (R92). -/
def exec_ld_h_a (s : State) : Result := ldRegReg .h .a s

/-- `LD L,B` (R92). -/
def exec_ld_l_b (s : State) : Result := ldRegReg .l .b s

/-- `LD L,C` (R92). -/
def exec_ld_l_c (s : State) : Result := ldRegReg .l .c s

/-- `LD L,D` (R92). -/
def exec_ld_l_d (s : State) : Result := ldRegReg .l .d s

/-- `LD L,E` (R92). -/
def exec_ld_l_e (s : State) : Result := ldRegReg .l .e s

/-- `LD L,H` (R92). -/
def exec_ld_l_h (s : State) : Result := ldRegReg .l .h s

/-- `LD L,L` (R92). -/
def exec_ld_l_l (s : State) : Result := ldRegReg .l .l s

/-- `LD L,(HL)` (R94). -/
def exec_ld_l_mhl (s : State) : Result := loadReg .l s.hl 8 s

/-- `LD L,A` (R92). -/
def exec_ld_l_a (s : State) : Result := ldRegReg .l .a s

/-- `LD (HL),B` (R95). -/
def exec_ld_mhl_b (s : State) : Result := s.storeThen s.hl (s.get8 .b) 8

/-- `LD (HL),C` (R95). -/
def exec_ld_mhl_c (s : State) : Result := s.storeThen s.hl (s.get8 .c) 8

/-- `LD (HL),D` (R95). -/
def exec_ld_mhl_d (s : State) : Result := s.storeThen s.hl (s.get8 .d) 8

/-- `LD (HL),E` (R95). -/
def exec_ld_mhl_e (s : State) : Result := s.storeThen s.hl (s.get8 .e) 8

/-- `LD (HL),H` (R95). -/
def exec_ld_mhl_h (s : State) : Result := s.storeThen s.hl (s.get8 .h) 8

/-- `LD (HL),L` (R95). -/
def exec_ld_mhl_l (s : State) : Result := s.storeThen s.hl (s.get8 .l) 8

/-- `LD (HL),A` (R95). -/
def exec_ld_mhl_a (s : State) : Result := s.storeThen s.hl (s.get8 .a) 8

/-- `LD A,B` (R92). -/
def exec_ld_a_b (s : State) : Result := ldRegReg .a .b s

/-- `LD A,C` (R92). -/
def exec_ld_a_c (s : State) : Result := ldRegReg .a .c s

/-- `LD A,D` (R92). -/
def exec_ld_a_d (s : State) : Result := ldRegReg .a .d s

/-- `LD A,E` (R92). -/
def exec_ld_a_e (s : State) : Result := ldRegReg .a .e s

/-- `LD A,H` (R92). -/
def exec_ld_a_h (s : State) : Result := ldRegReg .a .h s

/-- `LD A,L` (R92). -/
def exec_ld_a_l (s : State) : Result := ldRegReg .a .l s

/-- `LD A,(HL)` (R94). -/
def exec_ld_a_mhl (s : State) : Result := loadReg .a s.hl 8 s

/-- `LD A,A` (R92). -/
def exec_ld_a_a (s : State) : Result := ldRegReg .a .a s

/-- `POP BC` (R113). -/
def exec_pop_bc (s : State) : Result := popPair .bc s

/-- `PUSH BC` (R112). -/
def exec_push_bc (s : State) : Result := pushPair .bc s

/-- `POP DE` (R113). -/
def exec_pop_de (s : State) : Result := popPair .de s

/-- `PUSH DE` (R112). -/
def exec_push_de (s : State) : Result := pushPair .de s

/-- `LDH (n),A` (R102). -/
def exec_ldh_mn_a (n : Byte) (s : State) : Result := s.storeThen (ioAddress n) s.a 12

/-- `POP HL` (R113). -/
def exec_pop_hl (s : State) : Result := popPair .hl s

/-- `LD (C),A` (R104). -/
def exec_ld_mc_a (s : State) : Result := s.storeThen (ioAddress s.c) s.a 8

/-- `PUSH HL` (R112). -/
def exec_push_hl (s : State) : Result := pushPair .hl s

/-- `LD (nn),A` (R100). -/
def exec_ld_mnn_a (nn : Word) (s : State) : Result := s.storeThen nn s.a 16

/-- `LDH A,(n)` (R101). -/
def exec_ldh_a_mn (n : Byte) (s : State) : Result := loadReg .a (ioAddress n) 12 s

/-- `POP AF` (R113). -/
def exec_pop_af (s : State) : Result := popPair .af s

/-- `LD A,(C)` (R103). -/
def exec_ld_a_mc (s : State) : Result := loadReg .a (ioAddress s.c) 8 s

/-- `PUSH AF` (R112). -/
def exec_push_af (s : State) : Result := pushPair .af s

/-- `LD SP,HL` (R111). -/
def exec_ld_sp_hl (s : State) : Result := .next ({ s with sp := s.hl }.tick 8)

/-- `LD A,(nn)` (R99). -/
def exec_ld_a_mnn (nn : Word) (s : State) : Result := loadReg .a nn 16 s

end Sys2Proof.Machine
end

