-- ==== Sys2Proof/Machine/System.lean ====
section
/-! DEFINITION. NOP, HALT, STOP, DI, EI and the undefined opcodes (45_system R198 to R203). -/

namespace Sys2Proof.Machine

/-! ## One meaning per row of the opcode table -/

/-- `NOP` (R198). -/
def exec_nop (s : State) : Result := .next (s.tick 4)

/-- `STOP` (R200). -/
def exec_stop (_n : Byte) (s : State) : Result := .next ({ s with stopped := true }.tick 4)

/-- `HALT` (R199). -/
def exec_halt (s : State) : Result := .next ({ s with halted := true, haltBug := !s.ime }.tick 4)

/-- `ILLEGAL D3` (R203). -/
def exec_illegal_d3 (s : State) : Result := .next (s.raiseIllegalOpcode 0xD3)

/-- `ILLEGAL DB` (R203). -/
def exec_illegal_db (s : State) : Result := .next (s.raiseIllegalOpcode 0xDB)

/-- `ILLEGAL DD` (R203). -/
def exec_illegal_dd (s : State) : Result := .next (s.raiseIllegalOpcode 0xDD)

/-- `ILLEGAL E3` (R203). -/
def exec_illegal_e3 (s : State) : Result := .next (s.raiseIllegalOpcode 0xE3)

/-- `ILLEGAL E4` (R203). -/
def exec_illegal_e4 (s : State) : Result := .next (s.raiseIllegalOpcode 0xE4)

/-- `ILLEGAL EB` (R203). -/
def exec_illegal_eb (s : State) : Result := .next (s.raiseIllegalOpcode 0xEB)

/-- `ILLEGAL EC` (R203). -/
def exec_illegal_ec (s : State) : Result := .next (s.raiseIllegalOpcode 0xEC)

/-- `ILLEGAL ED` (R203). -/
def exec_illegal_ed (s : State) : Result := .next (s.raiseIllegalOpcode 0xED)

/-- `DI` (R201). -/
def exec_di (s : State) : Result := .next ({ s with ime := false }.tick 4)

/-- `ILLEGAL F4` (R203). -/
def exec_illegal_f4 (s : State) : Result := .next (s.raiseIllegalOpcode 0xF4)

/-- `EI` (R202). -/
def exec_ei (s : State) : Result := .next ({ s with ime := true }.tick 4)

/-- `ILLEGAL FC` (R203). -/
def exec_illegal_fc (s : State) : Result := .next (s.raiseIllegalOpcode 0xFC)

/-- `ILLEGAL FD` (R203). -/
def exec_illegal_fd (s : State) : Result := .next (s.raiseIllegalOpcode 0xFD)

end Sys2Proof.Machine
end

