-- ==== Sys2Proof/Machine/Fetch.lean ====
section
/-! DEFINITION. Fetching an instruction (30_encoding R81, R82, R86): its bytes are read one `Fetch8()` at a time. -/

namespace Sys2Proof.Machine

/-- The state after `n` more `Fetch8()` (R81). -/
def fetchMore : Nat → State → State
  | 0, s => s
  | n + 1, s => fetchMore n s.afterFetch

/-- The state at which the opcode fetch begins: `pc0 <- PC` (R82; log 9). -/
def State.atFetch (s : State) : State := { s with opPc := s.pc }

/-- The opcode byte at PC (R82). -/
def State.opcode (s : State) : Byte := s.loadByte s.pc

/-- The first byte after the opcode, as `Fetch8()` reads it (R80, R81). -/
def State.operand1 (s : State) : Byte := s.afterFetch.loadByte s.afterFetch.pc

/-- The second byte after the opcode. -/
def State.operand2 (s : State) : Byte := s.afterFetch.afterFetch.loadByte s.afterFetch.afterFetch.pc

/-- The instruction at PC, with the bytes its length gives it (R86). -/
def State.fetched (s : State) : Instr := decodeBytes s.opcode s.operand1 s.operand2

/-- The state after the instruction's bytes are fetched: PC is past them, and the halt bug is consumed (R81, R82). -/
def State.afterInstr (s : State) : State := fetchMore (instrLength s.opcode) s.atFetch

end Sys2Proof.Machine
end

