-- ==== Sys2Proof/Machine/Loop.lean ====
section
/-! DEFINITION. The main loop (60_exceptions R204 to R206) and the CPU step (30_encoding R82, R83), cut into steps of one
slot of the batch (log 8): the step that ends the batch also runs the PPU, timer and interrupt steps. -/

namespace Sys2Proof.Machine

/-- ExecuteOne() (R82): the instruction at PC runs on the state after its bytes are fetched. -/
def State.executeOne (s : State) : Result := exec s.fetched s.afterInstr

/-- IdleAdvance() (R240): `clocks <- max(clocks, min(ppu.nextTick, TimerNextOverflow()))`. -/
def State.idleAdvance (s : State) : State :=
  match s.timerNextOverflow with
  | none => { s with clocks := max s.clocks s.nextTick }
  | some t => { s with clocks := max s.clocks (min s.nextTick t) }

/-- The end of a CPU step: PpuStep, TimerStep, InterruptStep (R204); the next slot is the first of a new iteration. -/
def State.endIteration (s : State) : Result := ({ s with slot := 0 }.ppuStep.timerStep).interruptStep

/-- After an instruction: the fault ends the iteration with no further unit stepped (R204); HALT, STOP or the last slot
ends the batch (R83); else the next slot follows. -/
def State.afterSlot (s : State) : Result :=
  if s.fault.isSome then .next { s with slot := 0 }
  else if s.halted || s.stopped || decide (s.cfg.batch ≤ s.slot + 1) then s.endIteration
  else .next { s with slot := s.slot + 1 }

/-- The top of an iteration, which is the state itself inside a batch: the exit request draws nearer (R206), and a halted
or stopped CPU refreshes its input (R204, R241). -/
def State.atTop (s : State) : State :=
  if s.slot = 0 then
    let t := { s with exitIn := s.exitIn.map (· - 1) }
    if t.halted || t.stopped then t.inputRefresh else t
  else s

/-- One slot of the CPU step (R83): an idle CPU advances time once an iteration, and a CPU that finds itself halted or
stopped inside a batch ends it; else one instruction runs. -/
def State.cpuSlot (s : State) : Result :=
  if s.halted || s.stopped then (if s.slot = 0 then s.idleAdvance else s).endIteration
  else seq s.executeOne State.afterSlot

/-- One step: the end of the run at the host's request (R206), the machine stopped for good at a fault (R43), or one
slot. -/
def State.mainStep (s : State) : Result :=
  if s.slot = 0 ∧ s.exitIn = some 0 then .fault .hostExit
  else
    match s.fault with
    | some f => .fault (.illegalOpcode f.pc f.byte)
    | none => s.atTop.cpuSlot

/-- `v` placed where the page table puts address `a`, ROM included: the host loads a program (R11), no bus write. -/
def State.placeByte (s : State) (a : Word) (v : Byte) : State := s.writePlace (s.place a) v

/-- Bytes placed from address `a` on. -/
def placeBytes : List Byte → Word → State → State
  | [], _, s => s
  | v :: vs, a, s => placeBytes vs (a + 1) (s.placeByte a v)

/-- The latches that keep the next step from fetching at PC, cleared (log 15). -/
def State.readyToFetch (s : State) : State :=
  { s with halted := false, stopped := false, haltBug := false, fault := none, exitIn := none }

end Sys2Proof.Machine
end

