-- ==== Sys2Proof/Machine/Step.lean ====
section
/-! DEFINITION. The step of the machine. -/

namespace Sys2Proof.Machine

/-- One step: one slot of the main loop. -/
def step (s : State) : Host.Outcome State Fault Refusal := s.mainStep

/-- `s` with the instruction whose bits are `w`, as the opcode table numbers them, placed at PC, where `step` fetches its
next instruction. The bytes above `nbits`, up to the longest instruction, are zero (log 15). -/
def State.withFetchWord (s : State) (nbits w : Nat) : State :=
  placeBytes (tableBytes nbits (w % 2 ^ nbits)) s.pc s.readyToFetch

end Sys2Proof.Machine
end

