-- ==== Sys2Proof/Machine/Boot.lean ====
section
/-! DEFINITION. Reset with a cartridge (70 R248): what the cartridge loader supplies, and the refusal of a bad one. -/

namespace Sys2Proof.Machine

/-- What the cartridge loader supplies at reset (00_scope R11, R12, R13). -/
structure Cartridge where
  /-- ROM_IMAGE. -/
  image : List Byte
  romBanks : Nat
  ramBanks : Nat
  mbcRules : List MbcRule
deriving DecidableEq, Repr

/-- INIT_MEM (R16), one canonical buffer each; of `hram`, whose offsets are those of the I/O page, only high RAM (0x80 to
0xFE) counts. -/
structure InitMem where
  vram : Memory
  sram : Memory
  wram : Memory
  oam : Memory
  hram : Memory
deriving DecidableEq, Repr

/-- A list of bytes as a buffer, from offset `off` on, in the canonical form. -/
def bytesFrom (b : Buffer) : Nat → List Byte → Memory
  | _, [] => []
  | off, v :: vs => Memory.cons b off v (bytesFrom b (off + 1) vs)

/-- A pair of the I/O page in high RAM, 0xFF80 to 0xFFFE (10_state R35). -/
def inHighRam (cell : Host.Cell) : Bool := decide (0x80 ≤ cell.1) && decide (cell.1 ≤ 0xFE)

/-- The cartridge fits its own header: ROM_BANKS ≥ 2 and an image of ROM_BANKS × 16384 bytes (R248). -/
def Cartridge.fits (cart : Cartridge) : Bool :=
  decide (2 ≤ cart.romBanks) && decide (cart.image.length = cart.romBanks * 16384)

/-- Reset (R248): refused for a cartridge that does not fit; else the state of R250 with the cartridge's ROM, the
contents INIT_MEM, and the parameters BATCH and DAA_CARRY_RULE given. -/
def powerOn (batch : Nat) (rule : DaaCarryRule) (cart : Cartridge) (mem : InitMem) : Result :=
  if cart.fits then
    .next (State.resetWith
      { batch := batch, romBanks := cart.romBanks, ramBanks := cart.ramBanks, daaCarryRule := rule,
        mbcRules := cart.mbcRules }
      (bytesFrom .rom 0 cart.image) mem.vram mem.sram mem.wram mem.oam (mem.hram.filter inHighRam))
  else .refused .badCartridge

end Sys2Proof.Machine
end

