-- ==== Sys2Proof/Safety.lean ====
section
/-! DEFINITION. The terms in which statements speak: what every reachable state satisfies, which states run an
instruction, and what "everything else is unchanged" means. -/

namespace Sys2Proof.Machine

/-! ## Invariants -/

/-- Every backing buffer is in its canonical form. -/
def State.memWf (s : State) : Bool :=
  Memory.wf .rom s.rom && Memory.wf .vram s.vram && Memory.wf .sram s.sram && Memory.wf .wram s.wram &&
    Memory.wf .oam s.oam && Memory.wf .io s.io

/-- F[3:0] = 0 (10_state R24). -/
def State.flagsWf (s : State) : Bool := s.f &&& 0x0F == 0

/-- The timer's anchors are not in the future (R28, R40). -/
def State.anchorsWf (s : State) : Bool := decide (s.divBase ≤ s.clocks) && decide (s.timerBase ≤ s.clocks)

/-- The banks selected exist (R41, 20_memory R52, R53). -/
def State.banksWf (s : State) : Bool :=
  decide (s.romBank < s.cfg.romBanks) && (decide (s.cfg.ramBanks = 0) || decide (s.ramBank < s.cfg.ramBanks))

/-- STAT[1:0] is the mode of the PPU's state (10_state R36, R39). -/
def State.modeWf (s : State) : Bool := s.stat &&& 0x03 == s.ppu.mode

/-- LY fits the PPU's state (60 R235 to R238): a visible line outside V-blank, 144 to 153 or the tail's 0 in V-blank, 0
with the display off. -/
def State.lineWf (s : State) : Bool :=
  match s.ppu with
  | .oam => decide (s.ly.toNat < 144)
  | .vram => decide (s.ly.toNat < 144)
  | .hblank => decide (s.ly.toNat < 144)
  | .vblank => decide (s.ly.toNat = 0) || (decide (144 ≤ s.ly.toNat) && decide (s.ly.toNat ≤ 153))
  | .lcdOff => decide (s.ly.toNat = 0)

/-! ## Which states run an instruction -/

/-- The host ends the run at this step (60 R206). -/
def State.exitDue (s : State) : Bool := decide (s.slot = 0) && decide (s.exitIn = some 0)

/-- The next step executes the instruction at PC (30 R83, 60 R204). -/
def State.running (s : State) : Bool := !s.exitDue && s.fault.isNone && !s.halted && !s.stopped

/-! ## Addresses -/

/-- An address whose writes only store: RAM, or a byte of the I/O page without a special write (R54, R73). -/
def State.storesAt (s : State) (a : Word) : Bool :=
  decide (0x8000 ≤ a.toNat) && decide (s.place a ≠ .disabled) && !(inIoPage a && specialWrite (loByte a))

/-- An address whose reads and writes have no side effect and no handler (R54, R64): RAM, high RAM among it, or a byte of
the I/O page without a special access. -/
def State.plainAt (s : State) (a : Word) : Bool := s.storesAt a && !(inIoPage a && specialRead (loByte a))

/-! ## Frames -/

/-- No byte of memory, no bank and no bank-controller state differs: every buffer is the same, and so every address reads
as before. -/
def SameMemory (s t : State) : Prop :=
  (∀ b, t.buffer b = s.buffer b) ∧ t.romBank = s.romBank ∧ t.ramBank = s.ramBank ∧ t.mbcState = s.mbcState ∧
    ∀ a, t.rawRead a = s.rawRead a

/-- The PPU and the timer are unchanged, their I/O bytes apart. -/
def SameUnits (s t : State) : Prop :=
  t.ppu = s.ppu ∧ t.nextTick = s.nextTick ∧ t.divBase = s.divBase ∧ t.timerBase = s.timerBase ∧
    t.timerTicks = s.timerTicks

/-- The host's side is unchanged: parameters, inputs, calls made, and the place in the batch. -/
def SameHost (s t : State) : Prop :=
  t.cfg = s.cfg ∧ t.keys = s.keys ∧ t.keysIn = s.keysIn ∧ t.keysSeen = s.keysSeen ∧ t.exitIn = s.exitIn ∧
    t.hostOut = s.hostOut ∧ t.slot = s.slot

/-- The CPU's latches are unchanged: IME, HALT, STOP, the halt bug and the fault. -/
def SameLatches (s t : State) : Prop :=
  t.ime = s.ime ∧ t.halted = s.halted ∧ t.stopped = s.stopped ∧ t.haltBug = s.haltBug ∧ t.fault = s.fault ∧
    t.opPc = s.opPc

/-- Nothing outside the CPU's registers and the cycle counter differs. -/
def SameElsewhere (s t : State) : Prop := SameMemory s t ∧ SameUnits s t ∧ SameHost s t ∧ SameLatches s t

/-- Every 8-bit register but those of the list is unchanged. -/
def SameRegsBut (rs : List Reg8) (s t : State) : Prop := ∀ q, q ∉ rs → t.get8 q = s.get8 q

/-- The four flags of `t`; bits 3:0 of F are those of `s` (10_state R24). -/
def FlagsAre (s t : State) (z n h c : Bool) : Prop :=
  t.flagZ = z ∧ t.flagN = n ∧ t.flagH = h ∧ t.flagC = c ∧ t.f &&& 0x0F = s.f &&& 0x0F

/-- Of the CPU, only the listed 8-bit registers and F differ; `n` cycles are charged; nothing else differs. -/
def OnlyRegs (rs : List Reg8) (n : Nat) (s t : State) : Prop :=
  SameRegsBut rs s t ∧ t.sp = s.sp ∧ t.pc = s.pc ∧ t.clocks = s.clocks + n ∧ SameElsewhere s t

/-- What a form that stores leaves alone: every 8-bit register not listed, the latches, the PPU, ROM, the parameters and
the host's inputs; `n` cycles are charged. F, SP and PC are for the statement to say. -/
def StoreFrame (rs : List Reg8) (n : Nat) (s t : State) : Prop :=
  SameRegsBut rs s t ∧ t.clocks = s.clocks + n ∧ SameLatches s t ∧ t.ppu = s.ppu ∧ t.nextTick = s.nextTick ∧
    t.rom = s.rom ∧ t.cfg = s.cfg ∧ t.keys = s.keys ∧ t.keysIn = s.keysIn ∧ t.keysSeen = s.keysSeen ∧
    t.exitIn = s.exitIn ∧ t.slot = s.slot

/-- Memory, banks, timer and calls to the host are in `t` what they are in `m`. -/
def SameBus (m t : State) : Prop := SameMemory m t ∧ SameUnits m t ∧ t.hostOut = m.hostOut

/-- The memory of `t` is that of `s` after the byte store `MemWrite(a, 1, v)` (20_memory R56). In its own words: below
0x8000 no buffer changes (R57); where writes only store, `a` reads as `v` and every address naming another byte reads as
before; in the disabled area nothing changes (R51). -/
def Stored (a : Word) (v : Byte) (s t : State) : Prop :=
  (∃ m, s.store a v = .next m ∧ SameBus m t) ∧
  (a.toNat < 0x8000 → ∀ b, t.buffer b = s.buffer b) ∧
  (s.storesAt a = true → t.rawRead a = v ∧ ∀ a', s.place a' ≠ s.place a → t.rawRead a' = s.rawRead a') ∧
  (s.place a = .disabled → SameBus s t)

/-- The memory of `t` is that of `s` after the byte stores of `v1` at `a1` and then of `v2` at `a2`. Where both only
store, the two bytes read back and every address naming another byte reads as before. -/
def StoredTwo (a1 : Word) (v1 : Byte) (a2 : Word) (v2 : Byte) (s t : State) : Prop :=
  (∃ m1 m2, s.store a1 v1 = .next m1 ∧ m1.store a2 v2 = .next m2 ∧ SameBus m2 t) ∧
  (s.storesAt a1 = true → s.storesAt a2 = true →
    (s.place a1 ≠ s.place a2 → t.rawRead a1 = v1) ∧ t.rawRead a2 = v2 ∧
    ∀ a', s.place a' ≠ s.place a1 → s.place a' ≠ s.place a2 → t.rawRead a' = s.rawRead a')

/-- The two halves of a pair; SP has none. -/
def halves : Reg16 → List Reg8
  | .bc => [.b, .c]
  | .de => [.d, .e]
  | .hl => [.h, .l]
  | .sp => []

/-- The general registers of a pair of the stack; F, the low half of AF, is not among them. -/
def stackHalves : StackReg → List Reg8
  | .bc => [.b, .c]
  | .de => [.d, .e]
  | .hl => [.h, .l]
  | .af => [.a]

/-- As `OnlyRegs`, for the halves of a pair, or for SP. -/
def OnlyPair (rr : Reg16) (n : Nat) (s t : State) : Prop :=
  SameRegsBut (halves rr) s t ∧ (rr ≠ .sp → t.sp = s.sp) ∧ t.pc = s.pc ∧ t.clocks = s.clocks + n ∧ SameElsewhere s t

/-- Of the CPU, only PC differs; `n` cycles are charged; nothing else differs. -/
def OnlyPc (n : Nat) (s t : State) : Prop :=
  SameRegsBut [] s t ∧ t.f = s.f ∧ t.sp = s.sp ∧ t.clocks = s.clocks + n ∧ SameElsewhere s t

/-- No register, flag or byte of memory differs, and 4 cycles are charged; the latches are for the statement to say. -/
def OnlyLatches (s t : State) : Prop :=
  SameRegsBut [] s t ∧ t.f = s.f ∧ t.sp = s.sp ∧ t.pc = s.pc ∧ t.clocks = s.clocks + 4 ∧ SameMemory s t ∧
    SameUnits s t ∧ SameHost s t

/-- What a form that reads the byte at `a` and stores nothing leaves alone: of the CPU, all but the listed registers and F;
outside the CPU everything, but that a read of TIMA has caught the timer up (60 R223), which may write TIMA and IF. -/
def LoadFrame (rs : List Reg8) (n : Nat) (a : Word) (s t : State) : Prop :=
  SameRegsBut rs s t ∧ t.sp = s.sp ∧ t.pc = s.pc ∧ t.clocks = s.clocks + n ∧
    (a ≠ 0xFF05 → SameElsewhere s t) ∧ (a = 0xFF05 → SameElsewhere s.catchUp t) ∧
    ∀ x, s.place x ≠ .cell .io 0x05 → s.place x ≠ .cell .io 0x0F → t.rawRead x = s.rawRead x

/-- The byte at SP, which a pop reads first (20_memory R62). -/
def State.popLow (s : State) : Byte := s.loadByte s.sp

/-- The byte at SP + 1, which a pop reads second, after the first read's side effect. -/
def State.popHigh (s : State) : Byte := (s.afterLoad s.sp).loadByte (s.sp + 1)

/-- What a form that pops a word leaves alone, PC, the latches and its registers apart: SP is moved past the word and `n`
cycles are charged; outside the CPU nothing changes, but that a read of TIMA has caught the timer up. -/
def PopFrame (n : Nat) (s t : State) : Prop :=
  t.sp = s.sp + 2 ∧ t.clocks = s.clocks + n ∧
    (s.sp ≠ 0xFF05 → s.sp + 1 ≠ 0xFF05 → SameMemory s t ∧ SameUnits s t ∧ SameHost s t) ∧
    (s.sp = 0xFF05 ∨ s.sp + 1 = 0xFF05 → SameMemory s.catchUp t ∧ SameUnits s.catchUp t ∧ SameHost s.catchUp t)

/-- The word `v` is pushed (20_memory R62): SP falls by 2, and its high byte is stored first, at the higher address. -/
def Pushed (v : Word) (s t : State) : Prop :=
  t.sp = s.sp - 2 ∧ StoredTwo (s.sp - 1) (v.extractLsb' 8 8) (s.sp - 2) (v.extractLsb' 0 8) s t

/-- After the read of the byte at HL, `v` is stored there, `n` cycles are charged, and no register but F differs. -/
def Replaced (v : Byte) (n : Nat) (s t : State) : Prop :=
  Stored s.hl v (s.afterLoad s.hl) t ∧ t.sp = s.sp ∧ t.pc = s.pc ∧ StoreFrame [] n s t

/-- The PPU enters state `p`, with its mode in STAT[1:0], for `n` cycles. -/
def PpuEnters (p : PpuState) (n : Nat) (s t : State) : Prop :=
  t.ppu = p ∧ t.stat &&& 0x03 = p.mode ∧ t.nextTick = s.nextTick + n

/-- The IF bit that the STAT check on entering OAM scan raises, with the previous line `prev`, none where it is undefined
(60 R233). -/
def OamCheck (s : State) (prev : Option Byte) : Byte :=
  if s.stat.getLsbD 5 = true ∧ s.stat.getLsbD 3 = false ∧ ¬ (s.stat.getLsbD 6 = true ∧ prev = some s.lyc) then 0x02
  else 0x00

/-! ## The operand fields of the encodings -/

/-- The `r` field (30_encoding R79); 6 is the byte at HL. -/
def regCode : Reg8 → BitVec 3
  | .b => 0
  | .c => 1
  | .d => 2
  | .e => 3
  | .h => 4
  | .l => 5
  | .a => 7

/-- The `rr` field (R79). -/
def pairCode : Reg16 → BitVec 2
  | .bc => 0
  | .de => 1
  | .hl => 2
  | .sp => 3

/-- The `qq` field (R79). -/
def stackCode : StackReg → BitVec 2
  | .bc => 0
  | .de => 1
  | .hl => 2
  | .af => 3

/-- The `cc` field (R79). -/
def condCode : Cond → BitVec 2
  | .nz => 0
  | .z => 1
  | .nc => 2
  | .c => 3

/-- The field that selects an ALU operation (41 R122). -/
def aluCode : AluOp → BitVec 3
  | .add => 0
  | .adc => 1
  | .sub => 2
  | .sbc => 3
  | .and => 4
  | .xor => 5
  | .or => 6
  | .cp => 7

/-- The field that selects a CB shift (43 R164). -/
def shiftCode : ShiftOp → BitVec 3
  | .rlc => 0
  | .rrc => 1
  | .rl => 2
  | .rr => 3
  | .sla => 4
  | .sra => 5
  | .swap => 6
  | .srl => 7

/-- The bytes of an immediate word, low byte first (R80). -/
def immBytes (nn : Word) : List Byte := [nn.extractLsb' 0 8, nn.extractLsb' 8 8]

/-! ## What a group of instructions of one shape does -/

/-- `i` is encoded `code`, and loads `r` with the byte at `a`, in `n` cycles. -/
def Loads (i : Instr) (code : List Byte) (r : Reg8) (a : Word) (n : Nat) (s : State) : Prop :=
  encode i = code ∧ ∃ t, exec i s = .next t ∧ t.get8 r = s.loadByte a ∧ t.f = s.f ∧ LoadFrame [r] n a s t

/-- `i` is encoded `code`, and stores `v` at `a`, in `n` cycles. -/
def Stores (i : Instr) (code : List Byte) (a : Word) (v : Byte) (n : Nat) (s : State) : Prop :=
  encode i = code ∧
    ∃ t, exec i s = .next t ∧ Stored a v s t ∧ t.f = s.f ∧ t.sp = s.sp ∧ t.pc = s.pc ∧ StoreFrame [] n s t

/-- `i` pushes PC and jumps to `target`, in `n` cycles. -/
def Calls (i : Instr) (target : Word) (n : Nat) (s : State) : Prop :=
  ∃ t, exec i s = .next t ∧ Pushed s.pc s t ∧ t.pc = target ∧ t.f = s.f ∧ StoreFrame [] n s t

/-- The three forms of an ALU operation (41 R122) have their encodings and complete, with the operand the register, the
byte at HL, or the immediate: A and the four flags are the given functions of the operand. -/
def AluRuns (op : AluOp) (s : State) (res : Byte → Byte) (z n h c : Byte → Bool) : Prop :=
  (∀ r, encode (.aluReg op r) = [2#2 ++ aluCode op ++ regCode r] ∧
    ∃ t, exec (.aluReg op r) s = .next t ∧ t.a = res (s.get8 r) ∧
      FlagsAre s t (z (s.get8 r)) (n (s.get8 r)) (h (s.get8 r)) (c (s.get8 r)) ∧ OnlyRegs [.a] 4 s t) ∧
  (∀ b, s.loadByte s.hl = b → encode (.aluMem op) = [2#2 ++ aluCode op ++ 6#3] ∧
    ∃ t, exec (.aluMem op) s = .next t ∧ t.a = res b ∧ FlagsAre s t (z b) (n b) (h b) (c b) ∧
      LoadFrame [.a] 8 s.hl s t) ∧
  ∀ b, encode (.aluImm b op) = [3#2 ++ aluCode op ++ 6#3, b] ∧
    ∃ t, exec (.aluImm b op) s = .next t ∧ t.a = res b ∧ FlagsAre s t (z b) (n b) (h b) (c b) ∧ OnlyRegs [.a] 8 s t

/-- The two forms of a CB shift (43 R164) have their encodings and complete: the operand becomes `res` of it, Z says
whether that is 0, N and H are cleared, and C is `out` of the operand. -/
def ShiftRuns (op : ShiftOp) (s : State) (res : Byte → Byte) (out : Byte → Bool) : Prop :=
  (∀ r, encode (.shiftReg op r) = [0xCB, 0#2 ++ shiftCode op ++ regCode r] ∧
    ∃ t, exec (.shiftReg op r) s = .next t ∧ t.get8 r = res (s.get8 r) ∧
      FlagsAre s t (decide (res (s.get8 r) = 0)) false false (out (s.get8 r)) ∧ OnlyRegs [r] 8 s t) ∧
  (s.cfg.wf = true → ∀ v, s.loadByte s.hl = v → encode (.shiftMem op) = [0xCB, 0#2 ++ shiftCode op ++ 6#3] ∧
    ∃ t, exec (.shiftMem op) s = .next t ∧ Replaced (res v) 16 s t ∧
      FlagsAre s t (decide (res v = 0)) false false (out v))

end Sys2Proof.Machine
end

