-- ==== Sys2Proof/Certificates/Slice0/Obligations.lean ====
section
/-! DEFINITION. The statements for the provers. Each says what a numbered rule of the spec says, or what follows from the
spec's sections it names. -/

open Sys2Proof Sys2Proof.Machine

/-! ## Encoding (30_encoding) -/

/-- Decoding the bytes of a well-formed instruction gives it back, whatever follows it, with every operand at every value
(R78, R80, R86 to R90). -/
def Obligations.DecodeOfEncode : Prop :=
  ∀ (i : Instr) (rest : List Byte), i.wf = true → decode (encode i ++ rest) = .ok (i, rest)

/-- Every byte sequence is read as a well-formed instruction, and encoding it gives the bytes of its length back: no byte
sequence has two readings and no bit is dropped (R82, R86, R90). -/
def Obligations.EncodeOfDecode : Prop :=
  ∀ op b1 b2 : Byte, (decodeBytes op b1 b2).wf = true ∧
    encode (decodeBytes op b1 b2) = [op, b1, b2].take (instrLength op)

/-- R89: exactly the eleven listed first bytes are read as undefined opcodes, and each as the row of its own byte. -/
def Obligations.ElevenUndefinedOpcodes : Prop :=
  (∀ op b1 b2 : Byte, decodeBytes op b1 b2 ∈ illegalRows.map Prod.snd ↔
    op ∈ ([0xD3, 0xDB, 0xDD, 0xE3, 0xE4, 0xEB, 0xEC, 0xED, 0xF4, 0xFC, 0xFD] : List Byte)) ∧
  ∀ row ∈ illegalRows, ∀ b1 b2 : Byte, decodeBytes row.1 b1 b2 = row.2

/-- Words written out from the encodings of the rules decode to the instructions they stand for (a sanity statement). -/
def Obligations.KnownWordsDecode : Prop :=
  decode [0x3E, 0x5A] = .ok (.ld_a_n 0x5A, []) ∧
  decode [0x31, 0xFF, 0xDF] = .ok (.ld_sp_nn 0xDFFF, []) ∧
  decode [0x76] = .ok (.halt, []) ∧
  decode [0x9C] = .ok (.sbc_a_h, []) ∧
  decode [0x39] = .ok (.add_hl_sp, []) ∧
  decode [0xCB, 0x65] = .ok (.bit_4_l, []) ∧
  decode [0xCB, 0x1E] = .ok (.rr_mhl, []) ∧
  decode [0xDC, 0x34, 0x12] = .ok (.call_c_nn 0x1234, []) ∧
  decode [0x38, 0xFB] = .ok (.jr_c_e 0xFB, []) ∧
  decode [0xD3] = .ok (.illegal_d3, [])

/-! ## Stepping (30 R81 to R83, 60 R204) -/

/-- When the bytes the fetch reads decode to an instruction, the step is `exec` of it on the state after its bytes are
fetched, followed by what ends the slot of the batch. That a step is one slot of the batch, and that the host's exit request
is a countdown, are the model's choices (log 8, log 7). -/
def Obligations.StepRunsTheDecodedInstruction : Prop :=
  ∀ (s : State) (i : Instr) (rest : List Byte), s.running = true →
    decode [s.opcode, s.operand1, s.operand2] = .ok (i, rest) →
    step s = seq (exec i { s.afterInstr with exitIn := if s.slot = 0 then s.exitIn.map (· - 1) else s.exitIn })
      State.afterSlot

/-- R81 for a whole instruction: each fetch advances PC by one, except that the first fetch with the halt bug does not
advance it and clears the latch, so that the byte after the opcode is then read as the opcode again. -/
def Obligations.FetchAdvancesPc : Prop :=
  ∀ s : State, s.afterInstr.haltBug = false ∧ s.afterInstr.opPc = s.pc ∧
    (s.haltBug = false → s.afterInstr.pc = s.pc + BitVec.ofNat 16 (instrLength s.opcode)) ∧
    (s.haltBug = true → s.operand1 = s.opcode ∧
      s.afterInstr.pc = s.pc + BitVec.ofNat 16 (instrLength s.opcode - 1))

/-- R83, R204, R255: inside a batch the PPU does not move: a step that does not end the batch leaves the PPU's state and
deadline, LY and STAT[2:0] alone, whatever the instruction stores (the slot is the model's choice, log 8). -/
def Obligations.UnitsWaitForTheBatch : Prop :=
  ∀ s t : State, step s = .next t → t.slot ≠ 0 →
    t.ppu = s.ppu ∧ t.nextTick = s.nextTick ∧ t.ly = s.ly ∧ t.stat &&& 0x07 = s.stat &&& 0x07

/-- R204, R240, R241: an iteration that begins with the CPU halted or stopped refreshes the input, advances `clocks` to the
earlier of the PPU's deadline and the timer's next overflow, never back, and runs the PPU, timer and interrupt steps (the
slot, the list of inputs and the exit countdown are the model's choices, log 8, log 6, log 7). -/
def Obligations.IdleCpuAdvancesTime : Prop :=
  ∀ (s : State) (wake : Nat), s.exitDue = false → s.fault = none → s.slot = 0 →
    (s.halted = true ∨ (s.stopped = true ∧ s.nextKeys = 0)) →
    (timerEnabled s.tac = false → wake = s.nextTick) →
    (timerEnabled s.tac = true →
      wake = min s.nextTick (s.timerBase + (s.timerTicks + 256 - s.tima.toNat) * 2 ^ timerShift s.tac)) →
    step s = (State.catchUp (State.ppuStep
      { s with
        exitIn := s.exitIn.map (· - 1), keys := s.nextKeys, keysIn := s.keysIn.tail, keysSeen := s.keysSeen + 1,
        stopped := s.stopped && decide (s.nextKeys = 0), clocks := max s.clocks wake })).interruptStep

/-- R206, R43: a step faults in two ways only, at the top of an iteration with the host's exit request due, and in a state
whose fault is recorded; and in these it always does (that these two ends of a run are faults of `step` is the model's
choice, log 10, log 11, as are the slot and the exit countdown, log 8, log 7). -/
def Obligations.FaultsExactlyWhenTold : Prop :=
  (∀ s : State, s.slot = 0 → s.exitIn = some 0 → step s = .fault .hostExit) ∧
  (∀ (s : State) (f : IllegalOpcode), s.exitDue = false → s.fault = some f →
    step s = .fault (.illegalOpcode f.pc f.byte)) ∧
  (∀ (s : State) (g : Fault), step s = .fault g →
    (g = .hostExit ∧ s.slot = 0 ∧ s.exitIn = some 0) ∨ (∃ f, s.fault = some f ∧ g = .illegalOpcode f.pc f.byte))

/-- R55, R56, R208: with the parameters as the spec requires them, a machine that is not stopped always has a next state:
no load, store, fetch, interrupt or idle advance ever stops it (what stops it is the model's choice, log 10, log 11). -/
def Obligations.MachineNeverStuck : Prop :=
  ∀ s : State, s.cfg.wf = true → s.exitDue = false → s.fault = none → ∃ t, step s = .next t

/-- R203, R207, R209: an undefined opcode records its own address and byte and reports them to the host, and changes no
register, flag, byte of memory or cycle count; as a step, it leaves PC where its opcode fetch left it, and the rest of the
iteration does not run (the recorded fault as a next state, and the list of calls to the host, are the model's choices,
log 10, log 12). -/
def Obligations.UndefinedOpcodeFreezesTheMachine : Prop :=
  ∀ (s : State) (row : Byte × Instr), row ∈ illegalRows →
    (∃ t, exec row.2 s = .next t ∧ t.fault = some ⟨s.opPc, row.1⟩ ∧ t.hostOut = .faultReport s.opPc row.1 :: s.hostOut ∧
      SameRegsBut [] s t ∧ t.f = s.f ∧ t.sp = s.sp ∧ t.pc = s.pc ∧ t.clocks = s.clocks ∧ t.ime = s.ime ∧
      t.halted = s.halted ∧ t.stopped = s.stopped ∧ t.haltBug = s.haltBug ∧ SameMemory s t ∧ SameUnits s t) ∧
    (s.running = true → s.opcode = row.1 →
      ∃ t, step s = .next t ∧ t.fault = some ⟨s.pc, row.1⟩ ∧ t.hostOut = .faultReport s.pc row.1 :: s.hostOut ∧
        t.pc = (if s.haltBug then s.pc else s.pc + 1) ∧ SameRegsBut [] s t ∧ t.f = s.f ∧ t.sp = s.sp ∧
        t.clocks = s.clocks ∧ t.ime = s.ime ∧ t.haltBug = false ∧ SameMemory (s.afterLoad s.pc) t ∧
        SameUnits (s.afterLoad s.pc) t)

/-! ## Invariants of every step -/

/-- Every step keeps every backing buffer in its canonical form. -/
def Obligations.MemoryStaysCanonical : Prop :=
  ∀ s t : State, s.memWf = true → step s = .next t → t.memWf = true

/-- R24: every step keeps F[3:0] = 0. -/
def Obligations.FlagsLowNibbleStaysZero : Prop :=
  ∀ s t : State, s.flagsWf = true → step s = .next t → t.flagsWf = true

/-- R28, R40: every step keeps the timer's anchors at or before `clocks`, and `clocks` never decreases. -/
def Obligations.ClocksNeverDecrease : Prop :=
  ∀ s t : State, step s = .next t → s.clocks ≤ t.clocks ∧ (s.anchorsWf = true → t.anchorsWf = true)

/-- R41, R52, R53: every step keeps the selected banks within the cartridge. -/
def Obligations.BanksStayInRange : Prop :=
  ∀ s t : State, s.banksWf = true → step s = .next t → t.banksWf = true

/-- R36, R69: every step keeps STAT[1:0] equal to the mode of the PPU's state, whatever the program stores to STAT. -/
def Obligations.ModeBitsFollowThePpu : Prop :=
  ∀ s t : State, s.modeWf = true → step s = .next t → t.modeWf = true

/-- R39, R70, R236 to R238: every step keeps LY within the range of the PPU's state, whatever the program stores to LY. -/
def Obligations.LineStaysInRange : Prop :=
  ∀ s t : State, s.lineWf = true → step s = .next t → t.lineWf = true

/-- R11, R57: no step changes a byte of ROM, or a parameter. -/
def Obligations.RomNeverChanges : Prop :=
  ∀ s t : State, step s = .next t → t.rom = s.rom ∧ t.cfg = s.cfg

/-- The state after reset has every invariant of the statements above, and runs. `State.reset` is the model's choice where
the spec leaves parameters and inputs open: its ROM and RAM contents (log 1), its cartridge sizes and BATCH (log 2), its
bank controller (log 3), no exit request (log 7) and the slot (log 8); `ResetValues` ranges over every cartridge. -/
def Obligations.ResetHasTheInvariants : Prop :=
  State.reset.memWf = true ∧ State.reset.flagsWf = true ∧ State.reset.anchorsWf = true ∧
    State.reset.banksWf = true ∧ State.reset.modeWf = true ∧ State.reset.lineWf = true ∧ State.reset.running = true

/-- R44, R35, R39 to R43: what reset leaves, for every cartridge that fits, every BATCH, every DAA_CARRY_RULE and every
INIT_MEM: the CPU, the I/O bytes outside high RAM, the banks, the PPU, the timer and the keys. -/
def Obligations.ResetValues : Prop :=
  ∀ (batch : Nat) (rule : DaaCarryRule) (cart : Cartridge) (mem : InitMem), cart.fits = true →
    ∃ s, powerOn batch rule cart mem = .next s ∧
      s.af = 0x01B0 ∧ s.bc = 0x0013 ∧ s.de = 0x00D8 ∧ s.hl = 0x014D ∧ s.sp = 0xFFFE ∧ s.pc = 0x0100 ∧
      s.ime = false ∧ s.halted = false ∧ s.stopped = false ∧ s.haltBug = false ∧ s.clocks = 0 ∧ s.fault = none ∧
      s.romBank = 1 ∧ s.ramBank = 0 ∧ s.ppu = .oam ∧ s.nextTick = 80 ∧ s.divBase = 0 ∧ s.timerBase = 0 ∧
      s.timerTicks = 0 ∧ s.keys = 0 ∧
      s.p1 = 0xCF ∧ s.tima = 0 ∧ s.tma = 0 ∧ s.tac = 0 ∧ s.ifReg = 0 ∧ s.lcdc = 0x91 ∧ s.stat = 0x06 ∧ s.ly = 0 ∧
      s.lyc = 0 ∧ s.ie = 0 ∧ ∀ o, o < 0x80 → s.ioByte o = ioReset o

/-- R29 to R32, R208: of all instructions only the undefined opcodes change the fault, and each records the fetch's own
address; only EI, DI and RETI change IME; only HALT changes `halted` and the halt-bug latch; only STOP changes `stopped`. -/
def Obligations.LatchesHaveTheirInstructions : Prop :=
  ∀ (i : Instr) (s t : State), exec i s = .next t →
    ((t.fault = s.fault ∧ i ∉ illegalRows.map Prod.snd) ∨
      (∃ row ∈ illegalRows, i = row.2 ∧ t.fault = some ⟨s.opPc, row.1⟩)) ∧
    (i ≠ .ei → i ≠ .di → i ≠ .reti → t.ime = s.ime) ∧
    (i ≠ .halt → t.halted = s.halted ∧ t.haltBug = s.haltBug) ∧ ((∀ n, i ≠ .stop n) → t.stopped = s.stopped)

/-- R82, R84, R262: every instruction but an undefined opcode charges at least 4 and at most 24 cycles, in steps of 4;
an undefined opcode charges none. -/
def Obligations.EveryInstructionIsCharged : Prop :=
  ∀ (i : Instr) (s t : State), exec i s = .next t →
    if i ∈ illegalRows.map Prod.snd then t.clocks = s.clocks
    else ∃ k, 1 ≤ k ∧ k ≤ 6 ∧ t.clocks = s.clocks + 4 * k

/-! ## Memory and the bus (20_memory) -/

/-- R49: an address of 0xE000 to 0xFDFF and its mirror 0x2000 below name the same byte of work RAM, and a write through
either is read through both; no address from 0xFE00 on names a byte of work RAM. -/
def Obligations.EchoRamMirrorsWorkRam : Prop :=
  (∀ (s : State) (a b : Word) (v : Byte), 0xE000 ≤ a.toNat → a.toNat < 0xFE00 → (b = a ∨ b = a - 0x2000) →
    s.place b = .cell .wram (a.toNat - 0xE000) ∧
      ∃ t, s.store b v = .next t ∧ t.loadByte a = v ∧ t.loadByte (a - 0x2000) = v) ∧
  ∀ (s : State) (a : Word) (off : Nat), 0xFE00 ≤ a.toNat → s.place a ≠ .cell .wram off

/-- R56, R73: where writes only store, a store always completes, the byte reads back, every address naming another byte
reads as before, and nothing else changes. -/
def Obligations.PlainStoreReadsBack : Prop :=
  ∀ (s : State) (a : Word) (v : Byte), s.storesAt a = true →
    ∃ t, s.store a v = .next t ∧ t.rawRead a = v ∧ (a ≠ 0xFF00 → t.loadByte a = v) ∧
      (∀ a', s.place a' ≠ s.place a → t.rawRead a' = s.rawRead a') ∧
      SameRegsBut [] s t ∧ t.f = s.f ∧ t.sp = s.sp ∧ t.pc = s.pc ∧ t.clocks = s.clocks ∧ SameLatches s t ∧
      SameUnits s t ∧ SameHost s t ∧ t.romBank = s.romBank ∧ t.ramBank = s.ramBank ∧ t.mbcState = s.mbcState

/-- R57: a write below 0x8000 changes no byte of any buffer; it is passed to the host, and at most the banks change (the
list of calls to the host is the model's choice, log 12; so is the bank controller as a table of rules, log 3). -/
def Obligations.WriteBelow8000IsTheControllers : Prop :=
  ∀ (s t : State) (a : Word) (v : Byte), a.toNat < 0x8000 → s.store a v = .next t →
    (∀ b, t.buffer b = s.buffer b) ∧ t.hostOut = .mbcWrite a v :: s.hostOut ∧ SameRegsBut [] s t ∧ t.f = s.f ∧
      t.sp = s.sp ∧ t.pc = s.pc ∧ t.clocks = s.clocks ∧ SameLatches s t ∧ SameUnits s t ∧ t.cfg = s.cfg ∧
      t.keys = s.keys

/-- R52, R53, R51: a bank hook re-points its window at the bank and moves no other address; a bank outside the cartridge is
refused; without external RAM, selectRamBank has no effect and the window reads 0xFF and discards writes. -/
def Obligations.BankHooksRepointTheirWindows : Prop :=
  ∀ (s : State) (n : Nat),
    (n < s.cfg.romBanks → ∃ t, s.bankHook (.selectRomBank n) = .next t ∧ t.romBank = n ∧
      (∀ a : Word, 0x4000 ≤ a.toNat → a.toNat < 0x8000 →
        t.loadByte a = Memory.read .rom s.rom (n * 16384 + (a.toNat - 0x4000))) ∧
      (∀ a : Word, ¬ (0x4000 ≤ a.toNat ∧ a.toNat < 0x8000) → t.loadByte a = s.loadByte a)) ∧
    (s.cfg.romBanks ≤ n → s.bankHook (.selectRomBank n) = .refused (.romBankOutOfRange n)) ∧
    (s.cfg.ramBanks = 0 → s.bankHook (.selectRamBank n) = .next s ∧
      ∀ (a : Word) (v : Byte), 0xA000 ≤ a.toNat → a.toNat < 0xC000 → s.loadByte a = 0xFF ∧ s.store a v = .next s) ∧
    (n < s.cfg.ramBanks → ∃ t, s.bankHook (.selectRamBank n) = .next t ∧ t.ramBank = n ∧
      (∀ a : Word, 0xA000 ≤ a.toNat → a.toNat < 0xC000 →
        t.loadByte a = Memory.read .sram s.sram (n * 8192 + (a.toNat - 0xA000))) ∧
      (∀ a : Word, ¬ (0xA000 ≤ a.toNat ∧ a.toNat < 0xC000) → t.loadByte a = s.loadByte a)) ∧
    (s.cfg.ramBanks ≠ 0 → s.cfg.ramBanks ≤ n → s.bankHook (.selectRamBank n) = .refused (.ramBankOutOfRange n))

/-- R66 to R70, R72: a write of STAT keeps bits 2:0 and stores bits 7:3; a write of LY is discarded; a write of IF, LCDC,
BGP, OBP0, OBP1 or IE stores the byte and has no other effect. -/
def Obligations.PpuAndInterruptRegisterWrites : Prop :=
  ∀ (s : State) (v : Byte),
    (∃ t, s.store 0xFF41 v = .next t ∧ (∀ k, k < 3 → t.stat.getLsbD k = s.stat.getLsbD k) ∧
      (∀ k, 3 ≤ k → t.stat.getLsbD k = v.getLsbD k) ∧ (∀ o, o ≠ 0x41 → t.ioByte o = s.ioByte o) ∧
      (∀ b, b ≠ .io → t.buffer b = s.buffer b) ∧ SameUnits s t) ∧
    s.store 0xFF44 v = .next s ∧
    ∀ o : Byte, o ∈ ([0x0F, 0x40, 0x47, 0x48, 0x49, 0xFF] : List Byte) →
      ∃ t, s.store (0xFF00 + o.setWidth 16) v = .next t ∧ t.loadByte (0xFF00 + o.setWidth 16) = v ∧
        (∀ o', o' ≠ o.toNat → t.ioByte o' = s.ioByte o') ∧ (∀ b, b ≠ .io → t.buffer b = s.buffer b) ∧
        SameUnits s t ∧ SameLatches s t ∧ t.clocks = s.clocks

/-- R71: the OAM DMA leaves in 0xFE00-0xFE9F an exact copy of the 160 bytes at `v << 8`, stores `v`, and changes no
other byte, no register and no cycle count. -/
def Obligations.OamDmaCopiesExactly : Prop :=
  ∀ (s : State) (v : Byte), ∃ t, s.store 0xFF46 v = .next t ∧
    (∀ i, i < 160 → t.rawRead (BitVec.ofNat 16 (0xFE00 + i)) =
      (s.setIo 0x46 v).rawRead (BitVec.ofNat 16 (v.toNat * 256 + i))) ∧
    (∀ i, 160 ≤ i → Memory.read .oam t.oam i = Memory.read .oam s.oam i) ∧
    t.ioByte 0x46 = v ∧ (∀ o, o ≠ 0x46 → t.ioByte o = s.ioByte o) ∧
    (∀ b, b ≠ .io → b ≠ .oam → t.buffer b = s.buffer b) ∧
    SameRegsBut [] s t ∧ t.f = s.f ∧ t.sp = s.sp ∧ t.pc = s.pc ∧ t.clocks = s.clocks ∧ SameLatches s t ∧ SameUnits s t

/-- R65: the read of P1 is 0xFF with neither group selected; else bits 7:6 are 1, bits 5:4 the selectors, and a key line
is 0 exactly if a selected group has its key pressed. -/
def Obligations.JoypadRead : Prop :=
  ∀ s : State,
    (s.p1.getLsbD 4 = true → s.p1.getLsbD 5 = true → s.loadByte 0xFF00 = 0xFF) ∧
    (¬ (s.p1.getLsbD 4 = true ∧ s.p1.getLsbD 5 = true) →
      (s.loadByte 0xFF00).getLsbD 7 = true ∧ (s.loadByte 0xFF00).getLsbD 6 = true ∧
      (s.loadByte 0xFF00).getLsbD 5 = s.p1.getLsbD 5 ∧ (s.loadByte 0xFF00).getLsbD 4 = s.p1.getLsbD 4 ∧
      ∀ k, k < 4 → (s.loadByte 0xFF00).getLsbD k =
        !((!s.p1.getLsbD 4 && s.keys.getLsbD k) || (!s.p1.getLsbD 5 && s.keys.getLsbD (4 + k))))

/-! ## The timer and the PPU (60_exceptions) -/

/-- R220, R221: DIV counts every 256 cycles from its last write, a write zeroes it whatever the value, and the write does
not touch the timer's own phase. -/
def Obligations.DividerCountsFromItsWrite : Prop :=
  ∀ (s : State) (v : Byte),
    (s.loadByte 0xFF04).toNat = (s.clocks - s.divBase) / 256 % 256 ∧
    ∃ t, s.store 0xFF04 v = .next t ∧
      (∀ n, (State.loadByte { t with clocks := t.clocks + n } 0xFF04).toNat = n / 256 % 256) ∧
      t.timerBase = s.timerBase ∧ t.timerTicks = s.catchUp.timerTicks ∧ t.tima = s.catchUp.tima ∧ t.clocks = s.clocks

/-- R222: the catch-up applies the due ticks one at a time: with a tick due, applying one tick and catching up gives the
same TIMA, IF and tick count; with none due, or the timer disabled, nothing changes. No other I/O byte changes. -/
def Obligations.CatchUpTicksOneAtATime : Prop :=
  ∀ s : State,
    (timerEnabled s.tac = false ∨ s.timerTarget ≤ s.timerTicks → s.catchUp = s) ∧
    (timerEnabled s.tac = true → s.timerTicks < s.timerTarget →
      ∀ u : State,
        u = (if s.tima = 0xFF then
              { (s.setIo 0x05 s.tma).setIo 0x0F (s.ifReg ||| 0x04) with timerTicks := s.timerTicks + 1 }
            else { s.setIo 0x05 (s.tima + 1) with timerTicks := s.timerTicks + 1 }) →
        s.catchUp.tima = u.catchUp.tima ∧ s.catchUp.ifReg = u.catchUp.ifReg ∧
          s.catchUp.timerTicks = u.catchUp.timerTicks) ∧
    (∀ o, o ≠ 0x05 → o ≠ 0x0F → s.catchUp.ioByte o = s.ioByte o) ∧ s.catchUp.clocks = s.clocks ∧
      SameRegsBut [] s s.catchUp ∧ s.catchUp.f = s.f ∧ s.catchUp.sp = s.sp ∧ s.catchUp.pc = s.pc ∧
      SameLatches s s.catchUp

/-- R223 to R226: a read of TIMA answers it caught up; writes of TIMA and TMA catch up, store, and keep the phase; a
write of TAC catches up under the old TAC, stores, and restarts the phase. -/
def Obligations.TimerRegisterAccess : Prop :=
  ∀ (s : State) (v : Byte),
    s.loadByte 0xFF05 = s.catchUp.tima ∧ s.afterLoad 0xFF05 = s.catchUp ∧
    (∃ t, s.store 0xFF05 v = .next t ∧ t.tima = v ∧ t.ifReg = s.catchUp.ifReg ∧ t.timerBase = s.timerBase ∧
      t.timerTicks = s.catchUp.timerTicks) ∧
    (∃ t, s.store 0xFF06 v = .next t ∧ t.tma = v ∧ t.tima = s.catchUp.tima ∧ t.ifReg = s.catchUp.ifReg ∧
      t.timerBase = s.timerBase ∧ t.timerTicks = s.catchUp.timerTicks) ∧
    (∃ t, s.store 0xFF07 v = .next t ∧ t.tac = v ∧ t.tima = s.catchUp.tima ∧ t.ifReg = s.catchUp.ifReg ∧
      t.timerBase = s.clocks ∧ t.timerTicks = 0)

/-- R228, R240: the precomputed cycle is the next overflow: with the timer enabled, a catch-up at any earlier cycle
raises nothing, and a catch-up at that cycle reloads TIMA from TMA and sets IF bit 2. -/
def Obligations.NextOverflowIsExact : Prop :=
  ∀ (s : State) (n : Nat), s.timerNextOverflow = some n →
    (∀ c, c < n → (State.catchUp { s with clocks := c }).ifReg = s.ifReg) ∧
    (State.catchUp { s with clocks := n }).tima = s.tma ∧
    (State.catchUp { s with clocks := n }).ifReg.getLsbD 2 = true

/-- R229: the PPU step performs every transition that is due, in order, and none that is not: with the deadline passed it
is one transition and the step again, with the deadline ahead it does nothing, and afterwards the deadline lies ahead;
`clocks` does not move. -/
def Obligations.PpuStepLeavesNoDeadlineBehind : Prop :=
  ∀ s : State, s.ppuStep.clocks = s.clocks ∧ s.clocks < s.ppuStep.nextTick ∧
    (s.nextTick ≤ s.clocks → s.ppuStep = s.ppuTransition.ppuStep) ∧ (s.clocks < s.nextTick → s.ppuStep = s)

/-- R230: SetLY stores the line, sets the LYC signal to the match, and raises the STAT interrupt exactly if the match is
enabled and not ignored by the V-blank check. -/
def Obligations.SetLyCompares : Prop :=
  ∀ (s : State) (v : Byte),
    (s.setLy v).ly = v ∧ (s.setLy v).stat.getLsbD 2 = decide (v = s.lyc) ∧
    (∀ k, k < 8 → k ≠ 2 → (s.setLy v).stat.getLsbD k = s.stat.getLsbD k) ∧
    (s.setLy v).ifReg =
      (if v = s.lyc ∧ s.stat.getLsbD 6 = true ∧ ¬ (s.stat.getLsbD 4 = true ∧ (v = 0 ∨ 144 < v.toNat))
       then s.ifReg ||| 0x02 else s.ifReg) ∧
    ∀ o, o ≠ 0x44 → o ≠ 0x41 → o ≠ 0x0F → (s.setLy v).ioByte o = s.ioByte o

/-- R231 to R238: what each transition of the PPU makes of its state, mode, deadline, LY, IF and the host's calls. STAT's
enables and LYC are those before the transition; `setLy` is the comparator of R230. The list of calls to the host and the
supply of KEYS are the model's choices (log 12, log 6). -/
def Obligations.PpuTransitions : Prop :=
  ∀ (s t : State), t = s.ppuTransition →
    (s.ppu = .oam → PpuEnters .vram 172 s t ∧ t.ly = s.ly ∧ t.ifReg = s.ifReg ∧ t.hostOut = s.hostOut) ∧
    (s.ppu = .vram → PpuEnters .hblank 204 s t ∧ t.ly = s.ly ∧ t.hostOut = .renderLine s.ly :: s.hostOut ∧
      t.ifReg = (if s.stat.getLsbD 3 = true ∧ ¬ (s.stat.getLsbD 6 = true ∧ s.ly = s.lyc) then s.ifReg ||| 0x02
        else s.ifReg)) ∧
    (s.ppu = .hblank → s.ly = 143 → PpuEnters .vblank 456 s t ∧ t.ly = 144 ∧ t.keys = s.nextKeys ∧
      t.hostOut = .frameComplete :: s.hostOut ∧ t.stopped = (s.stopped && decide (s.nextKeys = 0)) ∧
      t.ifReg = (s.setLy 144).ifReg ||| 0x01 |||
        (if s.stat.getLsbD 4 = true ∧ s.stat.getLsbD 3 = false ∧ ¬ (s.stat.getLsbD 6 = true ∧ s.lyc ≠ 144)
          then 0x02 else 0x00)) ∧
    (s.ppu = .hblank → s.ly ≠ 143 → PpuEnters .oam 80 s t ∧ t.ly = s.ly + 1 ∧ t.hostOut = s.hostOut ∧
      t.ifReg = (s.setLy (s.ly + 1)).ifReg ||| OamCheck s (some s.ly)) ∧
    (s.ppu = .vblank → s.ly ≠ 0 → t.ppu = .vblank ∧ t.stat &&& 0x03 = s.stat &&& 0x03 ∧ t.hostOut = s.hostOut ∧
      t.ly = (if s.ly = 153 then 0 else s.ly + 1) ∧ t.ifReg = (s.setLy t.ly).ifReg ∧
      t.nextTick = s.nextTick + (if s.ly = 152 then 56 else if s.ly = 153 then 400 else 456)) ∧
    (s.ppu = .vblank → s.ly = 0 → s.lcdc.getLsbD 7 = true → PpuEnters .oam 80 s t ∧ t.ly = 0 ∧ t.hostOut = s.hostOut ∧
      t.ifReg = s.ifReg ||| OamCheck s (some 153)) ∧
    (s.ppu = .vblank → s.ly = 0 → s.lcdc.getLsbD 7 = false → PpuEnters .lcdOff 456 s t ∧ t.ly = 0 ∧
      t.hostOut = .blankFrame :: s.hostOut ∧ t.ifReg = s.ifReg) ∧
    (s.ppu = .lcdOff → t.keys = s.nextKeys ∧ t.stopped = (s.stopped && decide (s.nextKeys = 0)) ∧
      t.hostOut = s.hostOut ∧
      if s.lcdc.getLsbD 7 = true then PpuEnters .oam 80 s t ∧ t.ly = 0 ∧ t.ifReg = (s.setLy 0).ifReg ||| OamCheck s none
      else t.ppu = .lcdOff ∧ t.nextTick = s.nextTick + 456 ∧ t.ly = s.ly ∧ t.ifReg = s.ifReg)

/-! ## Interrupts (60_exceptions) -/

/-- R212 to R217: without a pending source the interrupt step changes nothing; with one it wakes the CPU; with IME set,
the lowest pending source is serviced: its IF bit and IME are cleared, PC is pushed high byte first, PC takes the source's
vector, and 20 cycles are charged; no flag and no other register is saved or changed. With the parameters as the spec
requires them the step always completes. -/
def Obligations.InterruptStep : Prop :=
  ∀ s : State,
    ((∀ k, k < 5 → ¬ (s.ie.getLsbD k = true ∧ s.ifReg.getLsbD k = true)) → s.interruptStep = .next s) ∧
    (∀ k, k < 5 → s.ie.getLsbD k = true → s.ifReg.getLsbD k = true → s.ime = false →
      s.interruptStep = .next { s with halted := false }) ∧
    (∀ (k : Nat) (m t : State), s.ime = true → k < 5 → s.ie.getLsbD k = true → s.ifReg.getLsbD k = true →
      (∀ j, j < k → ¬ (s.ie.getLsbD j = true ∧ s.ifReg.getLsbD j = true)) →
      (s.setIo 0x0F (s.ifReg &&& ~~~(1#8 <<< k))).store (s.sp - 1) (s.pc.extractLsb' 8 8) = .next m →
      m.store (s.sp - 2) (s.pc.extractLsb' 0 8) = .next t →
      s.interruptStep = .next
        { t with sp := s.sp - 2, pc := BitVec.ofNat 16 (0x40 + 8 * k), ime := false, halted := false,
                 clocks := s.clocks + 20 }) ∧
    (s.cfg.wf = true → ∃ t, s.interruptStep = .next t)

/-- R218, R196: RETI after a service whose stack bytes are plain memory (RAM, high RAM among it, no byte with a special
access) resumes the interrupted program: PC and SP as before it,
and IME set. -/
def Obligations.RetiUndoesTheService : Prop :=
  ∀ (s t : State), s.ime = true → s.pending ≠ 0 → s.plainAt (s.sp - 1) = true → s.plainAt (s.sp - 2) = true →
    s.interruptStep = .next t →
    ∃ u, exec .reti t = .next u ∧ u.pc = s.pc ∧ u.sp = s.sp ∧ u.ime = true ∧ SameRegsBut [] s u ∧ u.f = s.f

/-! ## The instructions (40 to 45): each runs on the state after its bytes are fetched, with PC at the next instruction.
Every statement says that each form has the encoding of its rule, completes in a next state and charges its cycles, what it
writes, and that it leaves everything else alone. -/

/-- R92, R93, R109, R111: `LD r,r'`, `LD r,n`, `LD rr,nn` and `LD SP,HL` write their destination and nothing else. -/
def Obligations.RegisterAndImmediateLoads : Prop :=
  ∀ s : State,
    (∀ r r' : Reg8, encode (.ldRegReg r r') = [1#2 ++ regCode r ++ regCode r'] ∧
      ∃ t, exec (.ldRegReg r r') s = .next t ∧ t.get8 r = s.get8 r' ∧ t.f = s.f ∧ OnlyRegs [r] 4 s t) ∧
    (∀ (n : Byte) (r : Reg8), encode (.ldRegImm n r) = [0#2 ++ regCode r ++ 6#3, n] ∧
      ∃ t, exec (.ldRegImm n r) s = .next t ∧ t.get8 r = n ∧ t.f = s.f ∧ OnlyRegs [r] 8 s t) ∧
    (∀ (nn : Word) (rr : Reg16), encode (.ldPairImm nn rr) = (0#2 ++ pairCode rr ++ 1#4) :: immBytes nn ∧
      ∃ t, exec (.ldPairImm nn rr) s = .next t ∧ t.get16 rr = nn ∧ t.f = s.f ∧ OnlyPair rr 12 s t) ∧
    encode .ld_sp_hl = [0xF9] ∧ ∃ t, exec .ld_sp_hl s = .next t ∧ t.sp = s.hl ∧ t.f = s.f ∧ OnlyPair .sp 8 s t

/-- R94, R97, R99, R101, R103: each byte load writes its register with the byte the bus answers at its address. -/
def Obligations.ByteLoads : Prop :=
  ∀ s : State,
    (∀ r, Loads (.ldRegMem r) [1#2 ++ regCode r ++ 6#3] r s.hl 8 s) ∧
    Loads .ld_a_mbc [0x0A] .a s.bc 8 s ∧ Loads .ld_a_mde [0x1A] .a s.de 8 s ∧
    (∀ nn, Loads (.ld_a_mnn nn) (0xFA :: immBytes nn) .a nn 16 s) ∧
    (∀ n, Loads (.ldh_a_mn n) [0xF0, n] .a (0xFF00 + n.setWidth 16) 12 s) ∧
    Loads .ld_a_mc [0xF2] .a (0xFF00 + s.c.setWidth 16) 8 s

/-- R95, R96, R98, R100, R102, R104: each byte store performs the bus write of its byte at its address, and nothing else. -/
def Obligations.ByteStores : Prop :=
  ∀ s : State, s.cfg.wf = true →
    (∀ r, Stores (.ldMemReg r) [1#2 ++ 6#3 ++ regCode r] s.hl (s.get8 r) 8 s) ∧
    (∀ n, Stores (.ld_mhl_n n) [0x36, n] s.hl n 12 s) ∧
    Stores .ld_mbc_a [0x02] s.bc s.a 8 s ∧ Stores .ld_mde_a [0x12] s.de s.a 8 s ∧
    (∀ nn, Stores (.ld_mnn_a nn) (0xEA :: immBytes nn) nn s.a 16 s) ∧
    (∀ n, Stores (.ldh_mn_a n) [0xE0, n] (0xFF00 + n.setWidth 16) s.a 12 s) ∧
    Stores .ld_mc_a [0xE2] (0xFF00 + s.c.setWidth 16) s.a 8 s

/-- R105 to R108: the four forms that move HL access the byte at the old HL, and then move it by one, modulo 2^16. -/
def Obligations.HlMovesAfterTheAccess : Prop :=
  ∀ s : State,
    encode .ld_a_mhli = [0x2A] ∧ encode .ld_a_mhld = [0x3A] ∧ encode .ld_mhli_a = [0x22] ∧ encode .ld_mhld_a = [0x32] ∧
    (∃ t, exec .ld_a_mhli s = .next t ∧ t.a = s.loadByte s.hl ∧ t.hl = s.hl + 1 ∧ t.f = s.f ∧
      LoadFrame [.a, .h, .l] 8 s.hl s t) ∧
    (∃ t, exec .ld_a_mhld s = .next t ∧ t.a = s.loadByte s.hl ∧ t.hl = s.hl - 1 ∧ t.f = s.f ∧
      LoadFrame [.a, .h, .l] 8 s.hl s t) ∧
    (s.cfg.wf = true →
      (∃ t, exec .ld_mhli_a s = .next t ∧ Stored s.hl s.a s t ∧ t.hl = s.hl + 1 ∧ t.f = s.f ∧ t.sp = s.sp ∧
        t.pc = s.pc ∧ StoreFrame [.h, .l] 8 s t) ∧
      ∃ t, exec .ld_mhld_a s = .next t ∧ Stored s.hl s.a s t ∧ t.hl = s.hl - 1 ∧ t.f = s.f ∧ t.sp = s.sp ∧
        t.pc = s.pc ∧ StoreFrame [.h, .l] 8 s t)

/-- R110, R112: `LD (nn),SP` stores the low byte of SP at nn and then the high byte at nn + 1; `PUSH qq` stores the high
byte at SP - 1 and then the low byte at SP - 2, and leaves SP there; the F it pushes has its low nibble zero. -/
def Obligations.WordStoresAndPush : Prop :=
  ∀ s : State, s.cfg.wf = true →
    (∀ nn : Word, encode (.ld_mnn_sp nn) = 0x08 :: immBytes nn ∧ ∃ t, exec (.ld_mnn_sp nn) s = .next t ∧
      StoredTwo nn (s.sp.extractLsb' 0 8) (nn + 1) (s.sp.extractLsb' 8 8) s t ∧
      t.f = s.f ∧ t.sp = s.sp ∧ t.pc = s.pc ∧ StoreFrame [] 20 s t) ∧
    (∀ q : StackReg, encode (.push q) = [3#2 ++ stackCode q ++ 5#4] ∧ ∃ t, exec (.push q) s = .next t ∧ Pushed (s.getStack q) s t ∧
      t.f = s.f ∧ t.pc = s.pc ∧ StoreFrame [] 16 s t) ∧
    (s.flagsWf = true → s.getStack .af &&& 0x000F = 0)

/-- R113: `POP qq` reads the low byte at SP and then the high byte at SP + 1, and moves SP past them; only `POP AF` writes
flags, all four from bits 7:4 of the low byte, and F[3:0] becomes 0. -/
def Obligations.PopReadsTheStack : Prop :=
  ∀ (s : State) (q : StackReg), encode (.pop q) = [3#2 ++ stackCode q ++ 1#4] ∧ ∃ t, exec (.pop q) s = .next t ∧
    (q ≠ .af → t.getStack q = s.popHigh ++ s.popLow ∧ t.f = s.f ∧ SameRegsBut (stackHalves q) s t) ∧
    (q = .af → t.a = s.popHigh ∧ SameRegsBut [.a] s t ∧ t.flagZ = s.popLow.getLsbD 7 ∧
      t.flagN = s.popLow.getLsbD 6 ∧ t.flagH = s.popLow.getLsbD 5 ∧ t.flagC = s.popLow.getLsbD 4 ∧ t.f &&& 0x0F = 0) ∧
    t.pc = s.pc ∧ SameLatches s t ∧ PopFrame 12 s t

/-- R114, R115, R123 to R128: ADD and ADC, in their register, memory and immediate forms, over exact sums. -/
def Obligations.AddAndAddWithCarry : Prop :=
  ∀ s : State,
    AluRuns .add s (fun b => BitVec.ofNat 8 (s.a.toNat + b.toNat))
      (fun b => decide ((s.a.toNat + b.toNat) % 256 = 0)) (fun _ => false)
      (fun b => decide (0x0F < s.a.toNat % 16 + b.toNat % 16)) (fun b => decide (0xFF < s.a.toNat + b.toNat)) ∧
    AluRuns .adc s (fun b => BitVec.ofNat 8 (s.a.toNat + b.toNat + s.flagC.toNat))
      (fun b => decide ((s.a.toNat + b.toNat + s.flagC.toNat) % 256 = 0)) (fun _ => false)
      (fun b => decide (0x0F < s.a.toNat % 16 + b.toNat % 16 + s.flagC.toNat))
      (fun b => decide (0xFF < s.a.toNat + b.toNat + s.flagC.toNat))

/-- R116, R117, R121, R129 to R134, R144 to R146: SUB, SBC and CP in every form; CP leaves A alone. -/
def Obligations.SubtractAndCompare : Prop :=
  ∀ s : State,
    AluRuns .sub s (fun b => s.a - b) (fun b => decide (s.a = b)) (fun _ => true)
      (fun b => decide (s.a.toNat % 16 < b.toNat % 16)) (fun b => decide (s.a.toNat < b.toNat)) ∧
    AluRuns .sbc s (fun b => s.a - b - (if s.flagC then 1 else 0))
      (fun b => decide (s.a - b - (if s.flagC then 1 else 0) = 0)) (fun _ => true)
      (fun b => decide (s.a.toNat % 16 < b.toNat % 16 + s.flagC.toNat))
      (fun b => decide (s.a.toNat < b.toNat + s.flagC.toNat)) ∧
    AluRuns .cp s (fun _ => s.a) (fun b => decide (s.a = b)) (fun _ => true)
      (fun b => decide (s.a.toNat % 16 < b.toNat % 16)) (fun b => decide (s.a.toNat < b.toNat))

/-- R118 to R120, R135 to R143: AND, XOR and OR in every form. -/
def Obligations.Logic : Prop :=
  ∀ s : State,
    AluRuns .and s (fun b => s.a &&& b) (fun b => decide (s.a &&& b = 0)) (fun _ => false) (fun _ => true)
      (fun _ => false) ∧
    AluRuns .xor s (fun b => s.a ^^^ b) (fun b => decide (s.a = b)) (fun _ => false) (fun _ => false)
      (fun _ => false) ∧
    AluRuns .or s (fun b => s.a ||| b) (fun b => decide (s.a = 0 ∧ b = 0)) (fun _ => false) (fun _ => false)
      (fun _ => false)

/-- R147 to R150: INC and DEC of a register and of the byte at HL; C is unchanged. -/
def Obligations.IncrementAndDecrement : Prop :=
  ∀ s : State,
    (∀ r : Reg8,
      encode (.incReg r) = [0#2 ++ regCode r ++ 4#3] ∧ encode (.decReg r) = [0#2 ++ regCode r ++ 5#3] ∧
      (∃ t, exec (.incReg r) s = .next t ∧ t.get8 r = s.get8 r + 1 ∧ OnlyRegs [r] 4 s t ∧
        FlagsAre s t (decide (s.get8 r = 0xFF)) false (decide (s.get8 r &&& 0x0F = 0x0F)) s.flagC) ∧
      ∃ t, exec (.decReg r) s = .next t ∧ t.get8 r = s.get8 r - 1 ∧ OnlyRegs [r] 4 s t ∧
        FlagsAre s t (decide (s.get8 r = 0x01)) true (decide (s.get8 r &&& 0x0F = 0x00)) s.flagC) ∧
    encode .inc_mhl = [0x34] ∧ encode .dec_mhl = [0x35] ∧
    (s.cfg.wf = true → ∀ old : Byte, s.loadByte s.hl = old →
      (∃ t, exec .inc_mhl s = .next t ∧ Replaced (old + 1) 12 s t ∧
        FlagsAre s t (decide (old = 0xFF)) false (decide (old &&& 0x0F = 0x0F)) s.flagC) ∧
      ∃ t, exec .dec_mhl s = .next t ∧ Replaced (old - 1) 12 s t ∧
        FlagsAre s t (decide (old = 0x01)) true (decide (old &&& 0x0F = 0x00)) s.flagC)

/-- R151: DAA, over exact numbers, under both values of DAA_CARRY_RULE. -/
def Obligations.DecimalAdjust : Prop :=
  ∀ (s : State) (low w : Nat),
    low = (if s.flagN then (if s.flagH then (s.a.toNat + 256 - 6) % 256 else s.a.toNat)
      else if s.flagH ∨ 9 < s.a.toNat % 16 then s.a.toNat + 6 else s.a.toNat) →
    w = (if s.flagN then (if s.flagC then (low + 65536 - 0x60) % 65536 else low)
      else if s.flagC ∨ 0x9F < low then low + 0x60 else low) →
    encode .daa = [0x27] ∧ ∃ t, exec .daa s = .next t ∧ t.a = BitVec.ofNat 8 w ∧ OnlyRegs [.a] 4 s t ∧
      FlagsAre s t (decide (w % 256 = 0)) s.flagN false
        (match s.cfg.daaCarryRule with
          | .bit8 => decide (w / 256 % 2 = 1)
          | .sticky => s.flagC || decide (w / 256 % 2 = 1))

/-- R152 to R154, R160 to R163: CPL, SCF, CCF, and the accumulator rotates, which always clear Z. -/
def Obligations.AccumulatorAndFlagForms : Prop :=
  ∀ s : State,
    encode .cpl = [0x2F] ∧ encode .scf = [0x37] ∧ encode .ccf = [0x3F] ∧
    encode .rlca = [0x07] ∧ encode .rrca = [0x0F] ∧ encode .rla = [0x17] ∧ encode .rra = [0x1F] ∧
    (∃ t, exec .cpl s = .next t ∧ t.a = s.a ^^^ 0xFF ∧ FlagsAre s t s.flagZ true true s.flagC ∧ OnlyRegs [.a] 4 s t) ∧
    (∃ t, exec .scf s = .next t ∧ FlagsAre s t s.flagZ false false true ∧ OnlyRegs [] 4 s t) ∧
    (∃ t, exec .ccf s = .next t ∧ FlagsAre s t s.flagZ false false (!s.flagC) ∧ OnlyRegs [] 4 s t) ∧
    (∃ t, exec .rlca s = .next t ∧ t.a = s.a.rotateLeft 1 ∧ FlagsAre s t false false false (s.a.getLsbD 7) ∧
      OnlyRegs [.a] 4 s t) ∧
    (∃ t, exec .rrca s = .next t ∧ t.a = s.a.rotateRight 1 ∧ FlagsAre s t false false false (s.a.getLsbD 0) ∧
      OnlyRegs [.a] 4 s t) ∧
    (∃ t, exec .rla s = .next t ∧ (t.a.getLsbD 0 = s.flagC ∧ ∀ k, k < 7 → t.a.getLsbD (k + 1) = s.a.getLsbD k) ∧
      FlagsAre s t false false false (s.a.getLsbD 7) ∧ OnlyRegs [.a] 4 s t) ∧
    ∃ t, exec .rra s = .next t ∧ (t.a.getLsbD 7 = s.flagC ∧ ∀ k, k < 7 → t.a.getLsbD k = s.a.getLsbD (k + 1)) ∧
      FlagsAre s t false false false (s.a.getLsbD 0) ∧ OnlyRegs [.a] 4 s t

/-- R155 to R157: `ADD HL,rr` (Z unchanged, C from bit 16, H the free parameter ADD16_HALF_CARRY, log 4: true whatever it
is), and `INC rr` and `DEC rr`, which write no flag. -/
def Obligations.PairArithmetic : Prop :=
  ∀ (s : State) (rr : Reg16),
    encode (.addHl rr) = [0#2 ++ pairCode rr ++ 9#4] ∧ encode (.incPair rr) = [0#2 ++ pairCode rr ++ 3#4] ∧
    encode (.decPair rr) = [0#2 ++ pairCode rr ++ 11#4] ∧
    (∃ t, exec (.addHl rr) s = .next t ∧ t.hl = BitVec.ofNat 16 (s.hl.toNat + (s.get16 rr).toNat) ∧
      FlagsAre s t s.flagZ false (Config.add16HalfCarry s.hl (s.get16 rr) t.hl)
        (decide (0xFFFF < s.hl.toNat + (s.get16 rr).toNat)) ∧ OnlyRegs [.h, .l] 8 s t) ∧
    (∃ t, exec (.incPair rr) s = .next t ∧ t.get16 rr = s.get16 rr + 1 ∧ t.f = s.f ∧ OnlyPair rr 8 s t) ∧
    ∃ t, exec (.decPair rr) s = .next t ∧ t.get16 rr = s.get16 rr - 1 ∧ t.f = s.f ∧ OnlyPair rr 8 s t

/-- R158, R159: `ADD SP,e` and `LD HL,SP+e` add the signed e; H and C are the carries of the low nibbles and low bytes. -/
def Obligations.StackPointerPlusOffset : Prop :=
  ∀ (s : State) (e : Byte) (half carry : Bool),
    half = decide (0x0F < s.sp.toNat % 16 + e.toNat % 16) → carry = decide (0xFF < s.sp.toNat % 256 + e.toNat) →
    encode (.add_sp_e e) = [0xE8, e] ∧ encode (.ld_hl_spe e) = [0xF8, e] ∧
    (∃ t, exec (.add_sp_e e) s = .next t ∧ t.sp = BitVec.ofInt 16 (s.sp.toNat + e.toInt) ∧
      FlagsAre s t false false half carry ∧ OnlyPair .sp 16 s t) ∧
    ∃ t, exec (.ld_hl_spe e) s = .next t ∧ t.hl = BitVec.ofInt 16 (s.sp.toNat + e.toInt) ∧
      FlagsAre s t false false half carry ∧ OnlyPair .hl 12 s t

/-- R165 to R172: RLC, RRC, RL and RR of a register and of the byte at HL. -/
def Obligations.Rotates : Prop :=
  ∀ s : State,
    ShiftRuns .rlc s (fun v => v.rotateLeft 1) (fun v => v.getLsbD 7) ∧
    ShiftRuns .rrc s (fun v => v.rotateRight 1) (fun v => v.getLsbD 0) ∧
    ShiftRuns .rl s (fun v => BitVec.ofNat 8 (v.toNat * 2 + s.flagC.toNat)) (fun v => v.getLsbD 7) ∧
    ShiftRuns .rr s (fun v => BitVec.ofNat 8 (v.toNat / 2 + 128 * s.flagC.toNat)) (fun v => v.getLsbD 0)

/-- R173 to R180: SLA, SRA, SWAP and SRL of a register and of the byte at HL. -/
def Obligations.ShiftsAndSwap : Prop :=
  ∀ s : State,
    ShiftRuns .sla s (fun v => BitVec.ofNat 8 (v.toNat * 2)) (fun v => v.getLsbD 7) ∧
    ShiftRuns .sra s (fun v => v.sshiftRight 1) (fun v => v.getLsbD 0) ∧
    ShiftRuns .swap s (fun v => v.rotateLeft 4) (fun _ => false) ∧
    ShiftRuns .srl s (fun v => BitVec.ofNat 8 (v.toNat / 2)) (fun v => v.getLsbD 0)

/-- R181 to R186: BIT writes Z, N and H and nothing else; RES clears and SET sets one bit of a register or of the byte at
HL, keep every other bit, and write no flag. -/
def Obligations.BitForms : Prop :=
  ∀ (s : State) (k : BitVec 3),
    (∀ r : Reg8,
      encode (.bitReg k r) = [0xCB, 1#2 ++ k ++ regCode r] ∧ encode (.resReg k r) = [0xCB, 2#2 ++ k ++ regCode r] ∧
      encode (.setReg k r) = [0xCB, 3#2 ++ k ++ regCode r] ∧
      (∃ t, exec (.bitReg k r) s = .next t ∧ FlagsAre s t (!(s.get8 r).getLsbD k.toNat) false true s.flagC ∧
        OnlyRegs [] 8 s t) ∧
      ∀ v : Bool, ∃ t, exec (if v then .setReg k r else .resReg k r) s = .next t ∧
        (∀ j, j < 8 → (t.get8 r).getLsbD j = if j = k.toNat then v else (s.get8 r).getLsbD j) ∧ t.f = s.f ∧
        OnlyRegs [r] 8 s t) ∧
    encode (.bitMem k) = [0xCB, 1#2 ++ k ++ 6#3] ∧ encode (.resMem k) = [0xCB, 2#2 ++ k ++ 6#3] ∧
    encode (.setMem k) = [0xCB, 3#2 ++ k ++ 6#3] ∧
    (∃ t, exec (.bitMem k) s = .next t ∧ FlagsAre s t (!(s.loadByte s.hl).getLsbD k.toNat) false true s.flagC ∧
      LoadFrame [] 12 s.hl s t) ∧
    (s.cfg.wf = true → ∀ v : Bool, ∃ (t : State) (new : Byte),
      exec (if v then .setMem k else .resMem k) s = .next t ∧
      (∀ j, j < 8 → new.getLsbD j = if j = k.toNat then v else (s.loadByte s.hl).getLsbD j) ∧ Replaced new 16 s t ∧
      t.f = s.f)

/-- R187 to R191: the jumps write PC and charge their cycles, by their condition; a relative target counts from the PC
after the instruction's bytes. -/
def Obligations.Jumps : Prop :=
  ∀ s : State,
    (∀ nn : Word, encode (.jp_nn nn) = 0xC3 :: immBytes nn ∧
      ∃ t, exec (.jp_nn nn) s = .next t ∧ t.pc = nn ∧ OnlyPc 16 s t) ∧
    (encode .jp_hl = [0xE9] ∧ ∃ t, exec .jp_hl s = .next t ∧ t.pc = s.hl ∧ OnlyPc 4 s t) ∧
    (∀ e : Byte, encode (.jr_e e) = [0x18, e] ∧
      ∃ t, exec (.jr_e e) s = .next t ∧ t.pc = BitVec.ofInt 16 (s.pc.toNat + e.toInt) ∧ OnlyPc 12 s t) ∧
    ∀ cc : Cond,
      (∀ nn : Word, encode (.jpIf nn cc) = (3#2 ++ 0#1 ++ condCode cc ++ 2#3) :: immBytes nn ∧
        ∃ t, exec (.jpIf nn cc) s = .next t ∧ t.pc = (if s.holds cc then nn else s.pc) ∧
          OnlyPc (if s.holds cc then 16 else 12) s t) ∧
      ∀ e : Byte, encode (.jrIf e cc) = [0#2 ++ 1#1 ++ condCode cc ++ 0#3, e] ∧
        ∃ t, exec (.jrIf e cc) s = .next t ∧
          t.pc = (if s.holds cc then BitVec.ofInt 16 (s.pc.toNat + e.toInt) else s.pc) ∧
          OnlyPc (if s.holds cc then 12 else 8) s t

/-- R192, R193, R197: CALL and RST push the address of the next instruction, high byte first, and jump; a conditional call
not taken pushes nothing. -/
def Obligations.CallsAndRestarts : Prop :=
  ∀ s : State, s.cfg.wf = true →
    (∀ nn : Word, encode (.call_nn nn) = 0xCD :: immBytes nn ∧ Calls (.call_nn nn) nn 24 s) ∧
    (∀ k : BitVec 3, encode (.rst k) = [3#2 ++ k ++ 7#3] ∧ Calls (.rst k) (BitVec.ofNat 16 (8 * k.toNat)) 16 s) ∧
    ∀ (nn : Word) (cc : Cond), encode (.callIf nn cc) = (3#2 ++ 0#1 ++ condCode cc ++ 4#3) :: immBytes nn ∧
      (s.holds cc = true → Calls (.callIf nn cc) nn 24 s) ∧
      (s.holds cc = false → ∃ t, exec (.callIf nn cc) s = .next t ∧ t.pc = s.pc ∧ OnlyPc 12 s t)

/-- R194 to R196: RET pops PC, RET cc does so if its condition holds, and RETI also sets IME, at once. -/
def Obligations.Returns : Prop :=
  ∀ s : State, encode .ret = [0xC9] ∧ encode .reti = [0xD9] ∧
    (∃ t, exec .ret s = .next t ∧ t.pc = s.popHigh ++ s.popLow ∧ SameRegsBut [] s t ∧ t.f = s.f ∧ SameLatches s t ∧
      PopFrame 16 s t) ∧
    (∀ cc : Cond, encode (.retIf cc) = [3#2 ++ 0#1 ++ condCode cc ++ 0#3] ∧
      (s.holds cc = true → ∃ t, exec (.retIf cc) s = .next t ∧ t.pc = s.popHigh ++ s.popLow ∧ SameRegsBut [] s t ∧
        t.f = s.f ∧ SameLatches s t ∧ PopFrame 20 s t) ∧
      (s.holds cc = false → ∃ t, exec (.retIf cc) s = .next t ∧ t.pc = s.pc ∧ OnlyPc 8 s t)) ∧
    ∃ t, exec .reti s = .next t ∧ t.pc = s.popHigh ++ s.popLow ∧ t.ime = true ∧ SameRegsBut [] s t ∧ t.f = s.f ∧
      t.halted = s.halted ∧ t.stopped = s.stopped ∧ t.haltBug = s.haltBug ∧ t.fault = s.fault ∧ PopFrame 16 s t

/-- R198 to R202: NOP, DI, EI, HALT and STOP charge 4 cycles and write their latches only: HALT keeps the complement of IME
as the halt bug; the second byte of STOP is ignored. -/
def Obligations.SystemForms : Prop :=
  ∀ s : State,
    encode .nop = [0x00] ∧ encode .di = [0xF3] ∧ encode .ei = [0xFB] ∧ encode .halt = [0x76] ∧
    (∀ n : Byte, encode (.stop n) = [0x10, n]) ∧
    (∃ t, exec .nop s = .next t ∧ OnlyLatches s t ∧ SameLatches s t) ∧
    (∃ t, exec .di s = .next t ∧ OnlyLatches s t ∧ SameLatches { s with ime := false } t) ∧
    (∃ t, exec .ei s = .next t ∧ OnlyLatches s t ∧ SameLatches { s with ime := true } t) ∧
    (∃ t, exec .halt s = .next t ∧ OnlyLatches s t ∧ SameLatches { s with halted := true, haltBug := !s.ime } t) ∧
    ∀ n : Byte, ∃ t, exec (.stop n) s = .next t ∧ OnlyLatches s t ∧ SameLatches { s with stopped := true } t

/-- R82, R88: the row of the byte 0xCB runs the CB-table row of its second byte, and completes. That this row, which is no
instruction by itself, is a constructor that carries the second byte is the model's choice (log 13). -/
def Obligations.PrefixRunsTheSecondTable : Prop :=
  ∀ (s : State) (op2 : Byte), exec (.prefix_cb op2) s = exec (decodeCb op2) s ∧
    (s.cfg.wf = true → ∃ t, exec (.prefix_cb op2) s = .next t ∧ exec (decodeCb op2) s = .next t)
end

