-- ==== Sys2Proof/Laws/Memory.lean ====
section
/-! SUPPORT. The laws of one buffer: reading after writing, and that every operation keeps the canonical form. The reading
laws hold of every list of pairs, canonical or not. -/

namespace Sys2Proof.Machine

theorem Memory.read_cons (b : Buffer) (off : Nat) (v : Byte) (m : Memory) (off' : Nat)
    (hm : off' ≤ off → Memory.read b m off' = unlisted b off') :
    Memory.read b (Memory.cons b off v m) off' =
      if off' = off then v else if off' < off then unlisted b off' else Memory.read b m off' := by
  unfold Memory.cons
  split
  · next h =>
    by_cases h1 : off' = off
    · subst h1; simp [hm, h]
    · by_cases h2 : off' < off
      · simp [h1, h2, hm (Nat.le_of_lt h2)]
      · simp [h1, h2]
  · by_cases h1 : off' = off
    · simp [Memory.read, h1]
    · simp [Memory.read, h1]

/-- Where every offset of a list is above `off'`, at its front, `off'` is unlisted. -/
theorem Memory.read_after (b : Buffer) (off off' : Nat) (m : Memory) :
    Memory.read b (Memory.after off m) off' =
      if off' ≤ off then unlisted b off' else Memory.read b m off' := by
  induction m with
  | nil => simp [Memory.after, Memory.read]
  | cons kw m ih =>
    obtain ⟨k, w⟩ := kw
    by_cases hk : k ≤ off
    · rw [Memory.after, if_pos hk, ih]
      by_cases h : off' ≤ off
      · simp [h]
      · have h1 : ¬ off' < k := by omega
        have h2 : off' ≠ k := by omega
        simp [h, Memory.read, h1, h2]
    · rw [Memory.after, if_neg hk]
      by_cases h : off' ≤ off
      · have h1 : off' < k := by omega
        simp [h, Memory.read, h1]
      · simp [h]

/-- Reading a buffer after a write: the byte written at that offset, and every other byte as before. -/
theorem Memory.read_write (b : Buffer) (m : Memory) (off off' : Nat) (v : Byte) :
    Memory.read b (Memory.write b m off v) off' = if off' = off then v else Memory.read b m off' := by
  induction m with
  | nil =>
    rw [Memory.write, Memory.read_cons _ _ _ _ _ (fun _ => rfl)]
    by_cases h : off' = off <;> simp [h, Memory.read]
  | cons kw m ih =>
    obtain ⟨k, w⟩ := kw
    rw [Memory.write]
    split
    · next hlt =>
      rw [Memory.read_cons _ _ _ _ _ (fun h => by simp [Memory.read, Nat.lt_of_le_of_lt h hlt])]
      by_cases h : off' = off
      · simp [h]
      · by_cases h2 : off' < off
        · simp [h, h2, Memory.read, Nat.lt_trans h2 hlt]
        · simp [h, h2]
    · split
      · next hk =>
        subst hk
        rw [Memory.read_cons _ _ _ _ _ (fun h => by simp [Memory.read_after, h])]
        by_cases h : off' = off
        · simp [h]
        · by_cases h2 : off' < off
          · simp [h, h2, Memory.read]
          · simp [h, h2, Memory.read_after, Memory.read, show ¬ off' ≤ off by omega]
      · next h1 h2 =>
        simp only [Memory.read, ih]
        by_cases h : off' = off
        · subst h; simp [h1, h2]
        · simp [h]

theorem Memory.canonicalFrom_mono {b : Buffer} {low low' : Nat} {m : Memory} (h : low' ≤ low)
    (hm : Memory.canonicalFrom b low m) : Memory.canonicalFrom b low' m := by
  cases m with
  | nil => rfl
  | cons kw m =>
    simp [Memory.canonicalFrom] at hm ⊢
    exact ⟨⟨Nat.le_trans h hm.1.1, hm.1.2⟩, hm.2⟩

theorem Memory.canonicalFrom_cons {b : Buffer} {low off : Nat} {v : Byte} {m : Memory} (h : low ≤ off)
    (hm : Memory.canonicalFrom b (off + 1) m) : Memory.canonicalFrom b low (Memory.cons b off v m) := by
  unfold Memory.cons
  split
  · exact Memory.canonicalFrom_mono (by omega) hm
  · next hv => simp [Memory.canonicalFrom, h, hv, hm]

theorem Memory.after_of_canonicalFrom {b : Buffer} {off : Nat} {m : Memory}
    (hm : Memory.canonicalFrom b (off + 1) m) : Memory.after off m = m := by
  cases m with
  | nil => rfl
  | cons kw m =>
    simp [Memory.canonicalFrom] at hm
    simp [Memory.after, show ¬ kw.1 ≤ off by omega]

theorem Memory.canonicalFrom_write {b : Buffer} {low off : Nat} {v : Byte} {m : Memory} (h : low ≤ off)
    (hm : Memory.canonicalFrom b low m) : Memory.canonicalFrom b low (Memory.write b m off v) := by
  induction m generalizing low with
  | nil => exact Memory.canonicalFrom_cons h rfl
  | cons kw m ih =>
    obtain ⟨k, w⟩ := kw
    have hm' := hm
    simp [Memory.canonicalFrom] at hm
    rw [Memory.write]
    split
    · refine Memory.canonicalFrom_cons h ?_
      simp [Memory.canonicalFrom, hm.1.2, hm.2]
      omega
    · split
      · next hk =>
        subst hk
        rw [Memory.after_of_canonicalFrom hm.2]
        exact Memory.canonicalFrom_cons h hm.2
      · simp [Memory.canonicalFrom, hm.1]
        exact ih (by omega) hm.2

/-- A write keeps the canonical form. -/
theorem Memory.wf_write {b : Buffer} {off : Nat} {v : Byte} {m : Memory} (hm : Memory.wf b m) :
    Memory.wf b (Memory.write b m off v) :=
  Memory.canonicalFrom_write (Nat.zero_le _) hm

/-- The empty list is canonical: a buffer with nothing listed. -/
@[simp] theorem Memory.wf_nil (b : Buffer) : Memory.wf b [] = true := rfl

end Sys2Proof.Machine
end

