-- ==== Sys2Proof/Laws/State.lean ====
section
/-! SUPPORT. For each update of the state, the fields it leaves alone, one equation per field (simp reads each conjunct as
a rewrite rule of its own), and what it writes. -/

namespace Sys2Proof.Machine

/-! ## Plain updates -/

/-- Two states with equal fields are equal. -/
theorem State.ext {s t : State}
    (_ : s.a = t.a) (_ : s.f = t.f) (_ : s.b = t.b) (_ : s.c = t.c) (_ : s.d = t.d) (_ : s.e = t.e)
    (_ : s.h = t.h) (_ : s.l = t.l) (_ : s.sp = t.sp) (_ : s.pc = t.pc) (_ : s.clocks = t.clocks)
    (_ : s.ime = t.ime) (_ : s.halted = t.halted) (_ : s.stopped = t.stopped) (_ : s.haltBug = t.haltBug)
    (_ : s.fault = t.fault) (_ : s.rom = t.rom) (_ : s.vram = t.vram) (_ : s.sram = t.sram)
    (_ : s.wram = t.wram) (_ : s.oam = t.oam) (_ : s.io = t.io) (_ : s.romBank = t.romBank)
    (_ : s.ramBank = t.ramBank) (_ : s.ppu = t.ppu) (_ : s.nextTick = t.nextTick) (_ : s.divBase = t.divBase)
    (_ : s.timerBase = t.timerBase) (_ : s.timerTicks = t.timerTicks) (_ : s.keys = t.keys)
    (_ : s.slot = t.slot) (_ : s.opPc = t.opPc) (_ : s.cfg = t.cfg) (_ : s.mbcState = t.mbcState)
    (_ : s.keysIn = t.keysIn) (_ : s.keysSeen = t.keysSeen) (_ : s.exitIn = t.exitIn)
    (_ : s.hostOut = t.hostOut) : s = t := by
  cases s; cases t; simp_all

/-- Charging cycles changes `clocks` only. -/
@[simp] theorem tick_fields (s : State) (n : Nat) :
    (s.tick n).a = s.a ∧ (s.tick n).f = s.f ∧ (s.tick n).b = s.b ∧ (s.tick n).c = s.c ∧ (s.tick n).d = s.d ∧
    (s.tick n).e = s.e ∧ (s.tick n).h = s.h ∧ (s.tick n).l = s.l ∧ (s.tick n).sp = s.sp ∧
    (s.tick n).pc = s.pc ∧ (s.tick n).ime = s.ime ∧ (s.tick n).halted = s.halted ∧
    (s.tick n).stopped = s.stopped ∧ (s.tick n).haltBug = s.haltBug ∧ (s.tick n).fault = s.fault ∧
    (s.tick n).rom = s.rom ∧ (s.tick n).vram = s.vram ∧ (s.tick n).sram = s.sram ∧ (s.tick n).wram = s.wram ∧
    (s.tick n).oam = s.oam ∧ (s.tick n).io = s.io ∧ (s.tick n).romBank = s.romBank ∧
    (s.tick n).ramBank = s.ramBank ∧ (s.tick n).ppu = s.ppu ∧ (s.tick n).nextTick = s.nextTick ∧
    (s.tick n).divBase = s.divBase ∧ (s.tick n).timerBase = s.timerBase ∧
    (s.tick n).timerTicks = s.timerTicks ∧ (s.tick n).keys = s.keys ∧ (s.tick n).slot = s.slot ∧
    (s.tick n).opPc = s.opPc ∧ (s.tick n).cfg = s.cfg ∧ (s.tick n).mbcState = s.mbcState ∧
    (s.tick n).keysIn = s.keysIn ∧ (s.tick n).keysSeen = s.keysSeen ∧ (s.tick n).exitIn = s.exitIn ∧
    (s.tick n).hostOut = s.hostOut := by
  repeat' constructor

@[simp] theorem tick_clocks (s : State) (n : Nat) : (s.tick n).clocks = s.clocks + n := rfl

/-- A call to the host changes `hostOut` only. -/
@[simp] theorem emit_fields (s : State) (ev : HostEvent) :
    (s.emit ev).a = s.a ∧ (s.emit ev).f = s.f ∧ (s.emit ev).b = s.b ∧ (s.emit ev).c = s.c ∧
    (s.emit ev).d = s.d ∧ (s.emit ev).e = s.e ∧ (s.emit ev).h = s.h ∧ (s.emit ev).l = s.l ∧
    (s.emit ev).sp = s.sp ∧ (s.emit ev).pc = s.pc ∧ (s.emit ev).clocks = s.clocks ∧ (s.emit ev).ime = s.ime ∧
    (s.emit ev).halted = s.halted ∧ (s.emit ev).stopped = s.stopped ∧ (s.emit ev).haltBug = s.haltBug ∧
    (s.emit ev).fault = s.fault ∧ (s.emit ev).rom = s.rom ∧ (s.emit ev).vram = s.vram ∧
    (s.emit ev).sram = s.sram ∧ (s.emit ev).wram = s.wram ∧ (s.emit ev).oam = s.oam ∧ (s.emit ev).io = s.io ∧
    (s.emit ev).romBank = s.romBank ∧ (s.emit ev).ramBank = s.ramBank ∧ (s.emit ev).ppu = s.ppu ∧
    (s.emit ev).nextTick = s.nextTick ∧ (s.emit ev).divBase = s.divBase ∧ (s.emit ev).timerBase = s.timerBase ∧
    (s.emit ev).timerTicks = s.timerTicks ∧ (s.emit ev).keys = s.keys ∧ (s.emit ev).slot = s.slot ∧
    (s.emit ev).opPc = s.opPc ∧ (s.emit ev).cfg = s.cfg ∧ (s.emit ev).mbcState = s.mbcState ∧
    (s.emit ev).keysIn = s.keysIn ∧ (s.emit ev).keysSeen = s.keysSeen ∧ (s.emit ev).exitIn = s.exitIn := by
  repeat' constructor

@[simp] theorem emit_hostOut (s : State) (ev : HostEvent) : (s.emit ev).hostOut = ev :: s.hostOut := rfl

/-- A raw I/O write changes `io` only. -/
@[simp] theorem setIo_fields (s : State) (o : Nat) (v : Byte) :
    (s.setIo o v).a = s.a ∧ (s.setIo o v).f = s.f ∧ (s.setIo o v).b = s.b ∧ (s.setIo o v).c = s.c ∧
    (s.setIo o v).d = s.d ∧ (s.setIo o v).e = s.e ∧ (s.setIo o v).h = s.h ∧ (s.setIo o v).l = s.l ∧
    (s.setIo o v).sp = s.sp ∧ (s.setIo o v).pc = s.pc ∧ (s.setIo o v).clocks = s.clocks ∧
    (s.setIo o v).ime = s.ime ∧ (s.setIo o v).halted = s.halted ∧ (s.setIo o v).stopped = s.stopped ∧
    (s.setIo o v).haltBug = s.haltBug ∧ (s.setIo o v).fault = s.fault ∧ (s.setIo o v).rom = s.rom ∧
    (s.setIo o v).vram = s.vram ∧ (s.setIo o v).sram = s.sram ∧ (s.setIo o v).wram = s.wram ∧
    (s.setIo o v).oam = s.oam ∧ (s.setIo o v).romBank = s.romBank ∧ (s.setIo o v).ramBank = s.ramBank ∧
    (s.setIo o v).ppu = s.ppu ∧ (s.setIo o v).nextTick = s.nextTick ∧ (s.setIo o v).divBase = s.divBase ∧
    (s.setIo o v).timerBase = s.timerBase ∧ (s.setIo o v).timerTicks = s.timerTicks ∧
    (s.setIo o v).keys = s.keys ∧ (s.setIo o v).slot = s.slot ∧ (s.setIo o v).opPc = s.opPc ∧
    (s.setIo o v).cfg = s.cfg ∧ (s.setIo o v).mbcState = s.mbcState ∧ (s.setIo o v).keysIn = s.keysIn ∧
    (s.setIo o v).keysSeen = s.keysSeen ∧ (s.setIo o v).exitIn = s.exitIn ∧
    (s.setIo o v).hostOut = s.hostOut := by
  repeat' constructor

@[simp] theorem setIo_io (s : State) (o : Nat) (v : Byte) : (s.setIo o v).io = Memory.write .io s.io o v := rfl

/-- A byte of the I/O page after a raw write. -/
theorem ioByte_setIo (s : State) (o o' : Nat) (v : Byte) :
    (s.setIo o v).ioByte o' = if o' = o then v else s.ioByte o' := by
  simp [State.ioByte, Memory.read_write]

/-- Writing HL changes H and L only. -/
@[simp] theorem setHl_fields (s : State) (v : Word) :
    (s.setHl v).a = s.a ∧ (s.setHl v).f = s.f ∧ (s.setHl v).b = s.b ∧ (s.setHl v).c = s.c ∧
    (s.setHl v).d = s.d ∧ (s.setHl v).e = s.e ∧ (s.setHl v).sp = s.sp ∧ (s.setHl v).pc = s.pc ∧
    (s.setHl v).clocks = s.clocks ∧ (s.setHl v).ime = s.ime ∧ (s.setHl v).halted = s.halted ∧
    (s.setHl v).stopped = s.stopped ∧ (s.setHl v).haltBug = s.haltBug ∧ (s.setHl v).fault = s.fault ∧
    (s.setHl v).rom = s.rom ∧ (s.setHl v).vram = s.vram ∧ (s.setHl v).sram = s.sram ∧
    (s.setHl v).wram = s.wram ∧ (s.setHl v).oam = s.oam ∧ (s.setHl v).io = s.io ∧
    (s.setHl v).romBank = s.romBank ∧ (s.setHl v).ramBank = s.ramBank ∧ (s.setHl v).ppu = s.ppu ∧
    (s.setHl v).nextTick = s.nextTick ∧ (s.setHl v).divBase = s.divBase ∧ (s.setHl v).timerBase = s.timerBase ∧
    (s.setHl v).timerTicks = s.timerTicks ∧ (s.setHl v).keys = s.keys ∧ (s.setHl v).slot = s.slot ∧
    (s.setHl v).opPc = s.opPc ∧ (s.setHl v).cfg = s.cfg ∧ (s.setHl v).mbcState = s.mbcState ∧
    (s.setHl v).keysIn = s.keysIn ∧ (s.setHl v).keysSeen = s.keysSeen ∧ (s.setHl v).exitIn = s.exitIn ∧
    (s.setHl v).hostOut = s.hostOut := by
  repeat' constructor

/-- Writing flags changes F only. -/
@[simp] theorem setFlags_fields (s : State) (z n h c : Bool) :
    (s.setFlags z n h c).a = s.a ∧ (s.setFlags z n h c).b = s.b ∧ (s.setFlags z n h c).c = s.c ∧
    (s.setFlags z n h c).d = s.d ∧ (s.setFlags z n h c).e = s.e ∧ (s.setFlags z n h c).h = s.h ∧
    (s.setFlags z n h c).l = s.l ∧ (s.setFlags z n h c).sp = s.sp ∧ (s.setFlags z n h c).pc = s.pc ∧
    (s.setFlags z n h c).clocks = s.clocks ∧ (s.setFlags z n h c).ime = s.ime ∧
    (s.setFlags z n h c).halted = s.halted ∧ (s.setFlags z n h c).stopped = s.stopped ∧
    (s.setFlags z n h c).haltBug = s.haltBug ∧ (s.setFlags z n h c).fault = s.fault ∧
    (s.setFlags z n h c).rom = s.rom ∧ (s.setFlags z n h c).vram = s.vram ∧
    (s.setFlags z n h c).sram = s.sram ∧ (s.setFlags z n h c).wram = s.wram ∧
    (s.setFlags z n h c).oam = s.oam ∧ (s.setFlags z n h c).io = s.io ∧
    (s.setFlags z n h c).romBank = s.romBank ∧ (s.setFlags z n h c).ramBank = s.ramBank ∧
    (s.setFlags z n h c).ppu = s.ppu ∧ (s.setFlags z n h c).nextTick = s.nextTick ∧
    (s.setFlags z n h c).divBase = s.divBase ∧ (s.setFlags z n h c).timerBase = s.timerBase ∧
    (s.setFlags z n h c).timerTicks = s.timerTicks ∧ (s.setFlags z n h c).keys = s.keys ∧
    (s.setFlags z n h c).slot = s.slot ∧ (s.setFlags z n h c).opPc = s.opPc ∧
    (s.setFlags z n h c).cfg = s.cfg ∧ (s.setFlags z n h c).mbcState = s.mbcState ∧
    (s.setFlags z n h c).keysIn = s.keysIn ∧ (s.setFlags z n h c).keysSeen = s.keysSeen ∧
    (s.setFlags z n h c).exitIn = s.exitIn ∧ (s.setFlags z n h c).hostOut = s.hostOut := by
  repeat' constructor

@[simp] theorem setFlags_f (s : State) (z n h c : Bool) :
    (s.setFlags z n h c).f = packFlags z n h c (s.f.extractLsb' 0 4) := rfl

/-- Writing the flags of a result changes F only. -/
@[simp] theorem setAluFlags_fields (s : State) (o : AluOut) :
    (s.setAluFlags o).a = s.a ∧ (s.setAluFlags o).b = s.b ∧ (s.setAluFlags o).c = s.c ∧
    (s.setAluFlags o).d = s.d ∧ (s.setAluFlags o).e = s.e ∧ (s.setAluFlags o).h = s.h ∧
    (s.setAluFlags o).l = s.l ∧ (s.setAluFlags o).sp = s.sp ∧ (s.setAluFlags o).pc = s.pc ∧
    (s.setAluFlags o).clocks = s.clocks ∧ (s.setAluFlags o).ime = s.ime ∧ (s.setAluFlags o).halted = s.halted ∧
    (s.setAluFlags o).stopped = s.stopped ∧ (s.setAluFlags o).haltBug = s.haltBug ∧
    (s.setAluFlags o).fault = s.fault ∧ (s.setAluFlags o).rom = s.rom ∧ (s.setAluFlags o).vram = s.vram ∧
    (s.setAluFlags o).sram = s.sram ∧ (s.setAluFlags o).wram = s.wram ∧ (s.setAluFlags o).oam = s.oam ∧
    (s.setAluFlags o).io = s.io ∧ (s.setAluFlags o).romBank = s.romBank ∧
    (s.setAluFlags o).ramBank = s.ramBank ∧ (s.setAluFlags o).ppu = s.ppu ∧
    (s.setAluFlags o).nextTick = s.nextTick ∧ (s.setAluFlags o).divBase = s.divBase ∧
    (s.setAluFlags o).timerBase = s.timerBase ∧ (s.setAluFlags o).timerTicks = s.timerTicks ∧
    (s.setAluFlags o).keys = s.keys ∧ (s.setAluFlags o).slot = s.slot ∧ (s.setAluFlags o).opPc = s.opPc ∧
    (s.setAluFlags o).cfg = s.cfg ∧ (s.setAluFlags o).mbcState = s.mbcState ∧
    (s.setAluFlags o).keysIn = s.keysIn ∧ (s.setAluFlags o).keysSeen = s.keysSeen ∧
    (s.setAluFlags o).exitIn = s.exitIn ∧ (s.setAluFlags o).hostOut = s.hostOut := by
  repeat' constructor

@[simp] theorem setAluFlags_f (s : State) (o : AluOut) :
    (s.setAluFlags o).f = packFlags o.z o.n o.h o.c (s.f.extractLsb' 0 4) := rfl

/-- Writing an ALU result changes A and F only. -/
@[simp] theorem setAlu_fields (s : State) (o : AluOut) :
    (s.setAlu o).b = s.b ∧ (s.setAlu o).c = s.c ∧ (s.setAlu o).d = s.d ∧ (s.setAlu o).e = s.e ∧
    (s.setAlu o).h = s.h ∧ (s.setAlu o).l = s.l ∧ (s.setAlu o).sp = s.sp ∧ (s.setAlu o).pc = s.pc ∧
    (s.setAlu o).clocks = s.clocks ∧ (s.setAlu o).ime = s.ime ∧ (s.setAlu o).halted = s.halted ∧
    (s.setAlu o).stopped = s.stopped ∧ (s.setAlu o).haltBug = s.haltBug ∧ (s.setAlu o).fault = s.fault ∧
    (s.setAlu o).rom = s.rom ∧ (s.setAlu o).vram = s.vram ∧ (s.setAlu o).sram = s.sram ∧
    (s.setAlu o).wram = s.wram ∧ (s.setAlu o).oam = s.oam ∧ (s.setAlu o).io = s.io ∧
    (s.setAlu o).romBank = s.romBank ∧ (s.setAlu o).ramBank = s.ramBank ∧ (s.setAlu o).ppu = s.ppu ∧
    (s.setAlu o).nextTick = s.nextTick ∧ (s.setAlu o).divBase = s.divBase ∧
    (s.setAlu o).timerBase = s.timerBase ∧ (s.setAlu o).timerTicks = s.timerTicks ∧
    (s.setAlu o).keys = s.keys ∧ (s.setAlu o).slot = s.slot ∧ (s.setAlu o).opPc = s.opPc ∧
    (s.setAlu o).cfg = s.cfg ∧ (s.setAlu o).mbcState = s.mbcState ∧ (s.setAlu o).keysIn = s.keysIn ∧
    (s.setAlu o).keysSeen = s.keysSeen ∧ (s.setAlu o).exitIn = s.exitIn ∧ (s.setAlu o).hostOut = s.hostOut := by
  repeat' constructor

@[simp] theorem setAlu_a (s : State) (o : AluOut) : (s.setAlu o).a = o.res := rfl

@[simp] theorem setAlu_f (s : State) (o : AluOut) :
    (s.setAlu o).f = packFlags o.z o.n o.h o.c (s.f.extractLsb' 0 4) := rfl

/-- BIT changes F only. -/
@[simp] theorem testBit_fields (s : State) (k : Nat) (v : Byte) :
    (s.testBit k v).a = s.a ∧ (s.testBit k v).b = s.b ∧ (s.testBit k v).c = s.c ∧ (s.testBit k v).d = s.d ∧
    (s.testBit k v).e = s.e ∧ (s.testBit k v).h = s.h ∧ (s.testBit k v).l = s.l ∧ (s.testBit k v).sp = s.sp ∧
    (s.testBit k v).pc = s.pc ∧ (s.testBit k v).clocks = s.clocks ∧ (s.testBit k v).ime = s.ime ∧
    (s.testBit k v).halted = s.halted ∧ (s.testBit k v).stopped = s.stopped ∧
    (s.testBit k v).haltBug = s.haltBug ∧ (s.testBit k v).fault = s.fault ∧ (s.testBit k v).rom = s.rom ∧
    (s.testBit k v).vram = s.vram ∧ (s.testBit k v).sram = s.sram ∧ (s.testBit k v).wram = s.wram ∧
    (s.testBit k v).oam = s.oam ∧ (s.testBit k v).io = s.io ∧ (s.testBit k v).romBank = s.romBank ∧
    (s.testBit k v).ramBank = s.ramBank ∧ (s.testBit k v).ppu = s.ppu ∧ (s.testBit k v).nextTick = s.nextTick ∧
    (s.testBit k v).divBase = s.divBase ∧ (s.testBit k v).timerBase = s.timerBase ∧
    (s.testBit k v).timerTicks = s.timerTicks ∧ (s.testBit k v).keys = s.keys ∧ (s.testBit k v).slot = s.slot ∧
    (s.testBit k v).opPc = s.opPc ∧ (s.testBit k v).cfg = s.cfg ∧ (s.testBit k v).mbcState = s.mbcState ∧
    (s.testBit k v).keysIn = s.keysIn ∧ (s.testBit k v).keysSeen = s.keysSeen ∧
    (s.testBit k v).exitIn = s.exitIn ∧ (s.testBit k v).hostOut = s.hostOut := by
  repeat' constructor

@[simp] theorem testBit_f (s : State) (k : Nat) (v : Byte) :
    (s.testBit k v).f = packFlags (!v.getLsbD k) false true s.flagC (s.f.extractLsb' 0 4) := rfl

/-- Extending the PPU deadline changes it only. -/
@[simp] theorem extendPpu_fields (s : State) (n : Nat) :
    (s.extendPpu n).a = s.a ∧ (s.extendPpu n).f = s.f ∧ (s.extendPpu n).b = s.b ∧ (s.extendPpu n).c = s.c ∧
    (s.extendPpu n).d = s.d ∧ (s.extendPpu n).e = s.e ∧ (s.extendPpu n).h = s.h ∧ (s.extendPpu n).l = s.l ∧
    (s.extendPpu n).sp = s.sp ∧ (s.extendPpu n).pc = s.pc ∧ (s.extendPpu n).clocks = s.clocks ∧
    (s.extendPpu n).ime = s.ime ∧ (s.extendPpu n).halted = s.halted ∧ (s.extendPpu n).stopped = s.stopped ∧
    (s.extendPpu n).haltBug = s.haltBug ∧ (s.extendPpu n).fault = s.fault ∧ (s.extendPpu n).rom = s.rom ∧
    (s.extendPpu n).vram = s.vram ∧ (s.extendPpu n).sram = s.sram ∧ (s.extendPpu n).wram = s.wram ∧
    (s.extendPpu n).oam = s.oam ∧ (s.extendPpu n).io = s.io ∧ (s.extendPpu n).romBank = s.romBank ∧
    (s.extendPpu n).ramBank = s.ramBank ∧ (s.extendPpu n).ppu = s.ppu ∧ (s.extendPpu n).divBase = s.divBase ∧
    (s.extendPpu n).timerBase = s.timerBase ∧ (s.extendPpu n).timerTicks = s.timerTicks ∧
    (s.extendPpu n).keys = s.keys ∧ (s.extendPpu n).slot = s.slot ∧ (s.extendPpu n).opPc = s.opPc ∧
    (s.extendPpu n).cfg = s.cfg ∧ (s.extendPpu n).mbcState = s.mbcState ∧ (s.extendPpu n).keysIn = s.keysIn ∧
    (s.extendPpu n).keysSeen = s.keysSeen ∧ (s.extendPpu n).exitIn = s.exitIn ∧
    (s.extendPpu n).hostOut = s.hostOut := by
  repeat' constructor

/-- An input refresh changes the key state and `stopped` only. -/
@[simp] theorem inputRefresh_fields (s : State) :
    (s.inputRefresh).a = s.a ∧ (s.inputRefresh).f = s.f ∧ (s.inputRefresh).b = s.b ∧ (s.inputRefresh).c = s.c ∧
    (s.inputRefresh).d = s.d ∧ (s.inputRefresh).e = s.e ∧ (s.inputRefresh).h = s.h ∧ (s.inputRefresh).l = s.l ∧
    (s.inputRefresh).sp = s.sp ∧ (s.inputRefresh).pc = s.pc ∧ (s.inputRefresh).clocks = s.clocks ∧
    (s.inputRefresh).ime = s.ime ∧ (s.inputRefresh).halted = s.halted ∧ (s.inputRefresh).haltBug = s.haltBug ∧
    (s.inputRefresh).fault = s.fault ∧ (s.inputRefresh).rom = s.rom ∧ (s.inputRefresh).vram = s.vram ∧
    (s.inputRefresh).sram = s.sram ∧ (s.inputRefresh).wram = s.wram ∧ (s.inputRefresh).oam = s.oam ∧
    (s.inputRefresh).io = s.io ∧ (s.inputRefresh).romBank = s.romBank ∧ (s.inputRefresh).ramBank = s.ramBank ∧
    (s.inputRefresh).ppu = s.ppu ∧ (s.inputRefresh).nextTick = s.nextTick ∧
    (s.inputRefresh).divBase = s.divBase ∧ (s.inputRefresh).timerBase = s.timerBase ∧
    (s.inputRefresh).timerTicks = s.timerTicks ∧ (s.inputRefresh).slot = s.slot ∧
    (s.inputRefresh).opPc = s.opPc ∧ (s.inputRefresh).cfg = s.cfg ∧ (s.inputRefresh).mbcState = s.mbcState ∧
    (s.inputRefresh).exitIn = s.exitIn ∧ (s.inputRefresh).hostOut = s.hostOut := by
  repeat' constructor

/-- Entering a PPU state changes STAT, the state and the deadline only. -/
@[simp] theorem enterPpu_fields (s : State) (p : PpuState) (n : Nat) :
    (s.enterPpu p n).a = s.a ∧ (s.enterPpu p n).f = s.f ∧ (s.enterPpu p n).b = s.b ∧ (s.enterPpu p n).c = s.c ∧
    (s.enterPpu p n).d = s.d ∧ (s.enterPpu p n).e = s.e ∧ (s.enterPpu p n).h = s.h ∧ (s.enterPpu p n).l = s.l ∧
    (s.enterPpu p n).sp = s.sp ∧ (s.enterPpu p n).pc = s.pc ∧ (s.enterPpu p n).clocks = s.clocks ∧
    (s.enterPpu p n).ime = s.ime ∧ (s.enterPpu p n).halted = s.halted ∧ (s.enterPpu p n).stopped = s.stopped ∧
    (s.enterPpu p n).haltBug = s.haltBug ∧ (s.enterPpu p n).fault = s.fault ∧ (s.enterPpu p n).rom = s.rom ∧
    (s.enterPpu p n).vram = s.vram ∧ (s.enterPpu p n).sram = s.sram ∧ (s.enterPpu p n).wram = s.wram ∧
    (s.enterPpu p n).oam = s.oam ∧ (s.enterPpu p n).romBank = s.romBank ∧
    (s.enterPpu p n).ramBank = s.ramBank ∧ (s.enterPpu p n).divBase = s.divBase ∧
    (s.enterPpu p n).timerBase = s.timerBase ∧ (s.enterPpu p n).timerTicks = s.timerTicks ∧
    (s.enterPpu p n).keys = s.keys ∧ (s.enterPpu p n).slot = s.slot ∧ (s.enterPpu p n).opPc = s.opPc ∧
    (s.enterPpu p n).cfg = s.cfg ∧ (s.enterPpu p n).mbcState = s.mbcState ∧
    (s.enterPpu p n).keysIn = s.keysIn ∧ (s.enterPpu p n).keysSeen = s.keysSeen ∧
    (s.enterPpu p n).exitIn = s.exitIn ∧ (s.enterPpu p n).hostOut = s.hostOut := by
  repeat' constructor

/-! ## Updates chosen by an operand -/

/-- Writing an 8-bit register changes no other kind of state. -/
@[simp] theorem set8_fields (s : State) (r : Reg8) (v : Byte) :
    (s.set8 r v).f = s.f ∧ (s.set8 r v).sp = s.sp ∧ (s.set8 r v).pc = s.pc ∧ (s.set8 r v).clocks = s.clocks ∧
    (s.set8 r v).ime = s.ime ∧ (s.set8 r v).halted = s.halted ∧ (s.set8 r v).stopped = s.stopped ∧
    (s.set8 r v).haltBug = s.haltBug ∧ (s.set8 r v).fault = s.fault ∧ (s.set8 r v).rom = s.rom ∧
    (s.set8 r v).vram = s.vram ∧ (s.set8 r v).sram = s.sram ∧ (s.set8 r v).wram = s.wram ∧
    (s.set8 r v).oam = s.oam ∧ (s.set8 r v).io = s.io ∧ (s.set8 r v).romBank = s.romBank ∧
    (s.set8 r v).ramBank = s.ramBank ∧ (s.set8 r v).ppu = s.ppu ∧ (s.set8 r v).nextTick = s.nextTick ∧
    (s.set8 r v).divBase = s.divBase ∧ (s.set8 r v).timerBase = s.timerBase ∧
    (s.set8 r v).timerTicks = s.timerTicks ∧ (s.set8 r v).keys = s.keys ∧ (s.set8 r v).slot = s.slot ∧
    (s.set8 r v).opPc = s.opPc ∧ (s.set8 r v).cfg = s.cfg ∧ (s.set8 r v).mbcState = s.mbcState ∧
    (s.set8 r v).keysIn = s.keysIn ∧ (s.set8 r v).keysSeen = s.keysSeen ∧ (s.set8 r v).exitIn = s.exitIn ∧
    (s.set8 r v).hostOut = s.hostOut := by
  cases r <;> (repeat' constructor)

/-- Reading an 8-bit register after writing one. -/
@[simp] theorem get8_set8 (s : State) (r q : Reg8) (v : Byte) :
    (s.set8 r v).get8 q = if q = r then v else s.get8 q := by
  cases r <;> cases q <;> rfl

/-- Writing a pair changes no other kind of state. -/
@[simp] theorem set16_fields (s : State) (r : Reg16) (v : Word) :
    (s.set16 r v).a = s.a ∧ (s.set16 r v).f = s.f ∧ (s.set16 r v).pc = s.pc ∧ (s.set16 r v).clocks = s.clocks ∧
    (s.set16 r v).ime = s.ime ∧ (s.set16 r v).halted = s.halted ∧ (s.set16 r v).stopped = s.stopped ∧
    (s.set16 r v).haltBug = s.haltBug ∧ (s.set16 r v).fault = s.fault ∧ (s.set16 r v).rom = s.rom ∧
    (s.set16 r v).vram = s.vram ∧ (s.set16 r v).sram = s.sram ∧ (s.set16 r v).wram = s.wram ∧
    (s.set16 r v).oam = s.oam ∧ (s.set16 r v).io = s.io ∧ (s.set16 r v).romBank = s.romBank ∧
    (s.set16 r v).ramBank = s.ramBank ∧ (s.set16 r v).ppu = s.ppu ∧ (s.set16 r v).nextTick = s.nextTick ∧
    (s.set16 r v).divBase = s.divBase ∧ (s.set16 r v).timerBase = s.timerBase ∧
    (s.set16 r v).timerTicks = s.timerTicks ∧ (s.set16 r v).keys = s.keys ∧ (s.set16 r v).slot = s.slot ∧
    (s.set16 r v).opPc = s.opPc ∧ (s.set16 r v).cfg = s.cfg ∧ (s.set16 r v).mbcState = s.mbcState ∧
    (s.set16 r v).keysIn = s.keysIn ∧ (s.set16 r v).keysSeen = s.keysSeen ∧ (s.set16 r v).exitIn = s.exitIn ∧
    (s.set16 r v).hostOut = s.hostOut := by
  cases r <;> (repeat' constructor)

/-- Writing a popped pair changes no other kind of state. -/
@[simp] theorem setStack_fields (s : State) (q : StackReg) (v : Word) :
    (s.setStack q v).sp = s.sp ∧ (s.setStack q v).pc = s.pc ∧ (s.setStack q v).clocks = s.clocks ∧
    (s.setStack q v).ime = s.ime ∧ (s.setStack q v).halted = s.halted ∧ (s.setStack q v).stopped = s.stopped ∧
    (s.setStack q v).haltBug = s.haltBug ∧ (s.setStack q v).fault = s.fault ∧ (s.setStack q v).rom = s.rom ∧
    (s.setStack q v).vram = s.vram ∧ (s.setStack q v).sram = s.sram ∧ (s.setStack q v).wram = s.wram ∧
    (s.setStack q v).oam = s.oam ∧ (s.setStack q v).io = s.io ∧ (s.setStack q v).romBank = s.romBank ∧
    (s.setStack q v).ramBank = s.ramBank ∧ (s.setStack q v).ppu = s.ppu ∧
    (s.setStack q v).nextTick = s.nextTick ∧ (s.setStack q v).divBase = s.divBase ∧
    (s.setStack q v).timerBase = s.timerBase ∧ (s.setStack q v).timerTicks = s.timerTicks ∧
    (s.setStack q v).keys = s.keys ∧ (s.setStack q v).slot = s.slot ∧ (s.setStack q v).opPc = s.opPc ∧
    (s.setStack q v).cfg = s.cfg ∧ (s.setStack q v).mbcState = s.mbcState ∧
    (s.setStack q v).keysIn = s.keysIn ∧ (s.setStack q v).keysSeen = s.keysSeen ∧
    (s.setStack q v).exitIn = s.exitIn ∧ (s.setStack q v).hostOut = s.hostOut := by
  cases q <;> (repeat' constructor)

/-- Replacing a buffer changes no other kind of state. -/
@[simp] theorem setBuffer_fields (s : State) (b : Buffer) (m : Memory) :
    (s.setBuffer b m).a = s.a ∧ (s.setBuffer b m).f = s.f ∧ (s.setBuffer b m).b = s.b ∧
    (s.setBuffer b m).c = s.c ∧ (s.setBuffer b m).d = s.d ∧ (s.setBuffer b m).e = s.e ∧
    (s.setBuffer b m).h = s.h ∧ (s.setBuffer b m).l = s.l ∧ (s.setBuffer b m).sp = s.sp ∧
    (s.setBuffer b m).pc = s.pc ∧ (s.setBuffer b m).clocks = s.clocks ∧ (s.setBuffer b m).ime = s.ime ∧
    (s.setBuffer b m).halted = s.halted ∧ (s.setBuffer b m).stopped = s.stopped ∧
    (s.setBuffer b m).haltBug = s.haltBug ∧ (s.setBuffer b m).fault = s.fault ∧
    (s.setBuffer b m).romBank = s.romBank ∧ (s.setBuffer b m).ramBank = s.ramBank ∧
    (s.setBuffer b m).ppu = s.ppu ∧ (s.setBuffer b m).nextTick = s.nextTick ∧
    (s.setBuffer b m).divBase = s.divBase ∧ (s.setBuffer b m).timerBase = s.timerBase ∧
    (s.setBuffer b m).timerTicks = s.timerTicks ∧ (s.setBuffer b m).keys = s.keys ∧
    (s.setBuffer b m).slot = s.slot ∧ (s.setBuffer b m).opPc = s.opPc ∧ (s.setBuffer b m).cfg = s.cfg ∧
    (s.setBuffer b m).mbcState = s.mbcState ∧ (s.setBuffer b m).keysIn = s.keysIn ∧
    (s.setBuffer b m).keysSeen = s.keysSeen ∧ (s.setBuffer b m).exitIn = s.exitIn ∧
    (s.setBuffer b m).hostOut = s.hostOut := by
  cases b <;> (repeat' constructor)

/-- A buffer after one is replaced. -/
@[simp] theorem buffer_setBuffer (s : State) (b b' : Buffer) (m : Memory) :
    (s.setBuffer b m).buffer b' = if b' = b then m else s.buffer b' := by
  cases b <;> cases b' <;> rfl

/-- A raw write changes buffers only. -/
@[simp] theorem writePlace_fields (s : State) (p : Place) (v : Byte) :
    (s.writePlace p v).a = s.a ∧ (s.writePlace p v).f = s.f ∧ (s.writePlace p v).b = s.b ∧
    (s.writePlace p v).c = s.c ∧ (s.writePlace p v).d = s.d ∧ (s.writePlace p v).e = s.e ∧
    (s.writePlace p v).h = s.h ∧ (s.writePlace p v).l = s.l ∧ (s.writePlace p v).sp = s.sp ∧
    (s.writePlace p v).pc = s.pc ∧ (s.writePlace p v).clocks = s.clocks ∧ (s.writePlace p v).ime = s.ime ∧
    (s.writePlace p v).halted = s.halted ∧ (s.writePlace p v).stopped = s.stopped ∧
    (s.writePlace p v).haltBug = s.haltBug ∧ (s.writePlace p v).fault = s.fault ∧
    (s.writePlace p v).romBank = s.romBank ∧ (s.writePlace p v).ramBank = s.ramBank ∧
    (s.writePlace p v).ppu = s.ppu ∧ (s.writePlace p v).nextTick = s.nextTick ∧
    (s.writePlace p v).divBase = s.divBase ∧ (s.writePlace p v).timerBase = s.timerBase ∧
    (s.writePlace p v).timerTicks = s.timerTicks ∧ (s.writePlace p v).keys = s.keys ∧
    (s.writePlace p v).slot = s.slot ∧ (s.writePlace p v).opPc = s.opPc ∧ (s.writePlace p v).cfg = s.cfg ∧
    (s.writePlace p v).mbcState = s.mbcState ∧ (s.writePlace p v).keysIn = s.keysIn ∧
    (s.writePlace p v).keysSeen = s.keysSeen ∧ (s.writePlace p v).exitIn = s.exitIn ∧
    (s.writePlace p v).hostOut = s.hostOut := by
  cases p <;> simp [State.writePlace]

/-- The place an address names depends on the banks and the cartridge alone. -/
theorem place_congr {s t : State} (hr : t.romBank = s.romBank) (hs : t.ramBank = s.ramBank) (hc : t.cfg = s.cfg)
    (a : Word) : t.place a = s.place a := by
  simp [State.place, hr, hs, hc]

/-- Reading a place after a raw write. -/
theorem readPlace_writePlace (s : State) (p q : Place) (v : Byte) (hp : p ≠ .disabled) :
    (s.writePlace p v).readPlace q = if q = p then v else s.readPlace q := by
  cases p with
  | disabled => exact absurd rfl hp
  | cell b off =>
    cases q with
    | disabled => simp [State.readPlace]
    | cell b' off' =>
      by_cases hb : b' = b
      · subst hb
        simp [State.readPlace, State.writePlace, Memory.read_write]
      · simp [State.readPlace, State.writePlace, hb]

/-- A raw write through one address read through another. -/
theorem rawRead_writePlace (s : State) (a a' : Word) (v : Byte) (hp : s.place a ≠ .disabled) :
    (s.writePlace (s.place a) v).rawRead a' = if s.place a' = s.place a then v else s.rawRead a' := by
  have hpl : (s.writePlace (s.place a) v).place a' = s.place a' := place_congr (by simp) (by simp) (by simp) a'
  simp [State.rawRead, hpl, readPlace_writePlace _ _ _ _ hp]

/-! ## The units -/

/-- Raising an interrupt changes IF only. -/
@[simp] theorem raiseInterrupt_fields (s : State) (k : Nat) :
    (s.raiseInterrupt k).a = s.a ∧ (s.raiseInterrupt k).f = s.f ∧ (s.raiseInterrupt k).b = s.b ∧
    (s.raiseInterrupt k).c = s.c ∧ (s.raiseInterrupt k).d = s.d ∧ (s.raiseInterrupt k).e = s.e ∧
    (s.raiseInterrupt k).h = s.h ∧ (s.raiseInterrupt k).l = s.l ∧ (s.raiseInterrupt k).sp = s.sp ∧
    (s.raiseInterrupt k).pc = s.pc ∧ (s.raiseInterrupt k).clocks = s.clocks ∧
    (s.raiseInterrupt k).ime = s.ime ∧ (s.raiseInterrupt k).halted = s.halted ∧
    (s.raiseInterrupt k).stopped = s.stopped ∧ (s.raiseInterrupt k).haltBug = s.haltBug ∧
    (s.raiseInterrupt k).fault = s.fault ∧ (s.raiseInterrupt k).rom = s.rom ∧
    (s.raiseInterrupt k).vram = s.vram ∧ (s.raiseInterrupt k).sram = s.sram ∧
    (s.raiseInterrupt k).wram = s.wram ∧ (s.raiseInterrupt k).oam = s.oam ∧
    (s.raiseInterrupt k).romBank = s.romBank ∧ (s.raiseInterrupt k).ramBank = s.ramBank ∧
    (s.raiseInterrupt k).ppu = s.ppu ∧ (s.raiseInterrupt k).nextTick = s.nextTick ∧
    (s.raiseInterrupt k).divBase = s.divBase ∧ (s.raiseInterrupt k).timerBase = s.timerBase ∧
    (s.raiseInterrupt k).timerTicks = s.timerTicks ∧ (s.raiseInterrupt k).keys = s.keys ∧
    (s.raiseInterrupt k).slot = s.slot ∧ (s.raiseInterrupt k).opPc = s.opPc ∧
    (s.raiseInterrupt k).cfg = s.cfg ∧ (s.raiseInterrupt k).mbcState = s.mbcState ∧
    (s.raiseInterrupt k).keysIn = s.keysIn ∧ (s.raiseInterrupt k).keysSeen = s.keysSeen ∧
    (s.raiseInterrupt k).exitIn = s.exitIn ∧ (s.raiseInterrupt k).hostOut = s.hostOut := by
  repeat' constructor

/-- Raising an interrupt on a condition changes IF only. -/
@[simp] theorem raiseInterruptIf_fields (s : State) (p : Bool) (k : Nat) :
    (s.raiseInterruptIf p k).a = s.a ∧ (s.raiseInterruptIf p k).f = s.f ∧ (s.raiseInterruptIf p k).b = s.b ∧
    (s.raiseInterruptIf p k).c = s.c ∧ (s.raiseInterruptIf p k).d = s.d ∧ (s.raiseInterruptIf p k).e = s.e ∧
    (s.raiseInterruptIf p k).h = s.h ∧ (s.raiseInterruptIf p k).l = s.l ∧ (s.raiseInterruptIf p k).sp = s.sp ∧
    (s.raiseInterruptIf p k).pc = s.pc ∧ (s.raiseInterruptIf p k).clocks = s.clocks ∧
    (s.raiseInterruptIf p k).ime = s.ime ∧ (s.raiseInterruptIf p k).halted = s.halted ∧
    (s.raiseInterruptIf p k).stopped = s.stopped ∧ (s.raiseInterruptIf p k).haltBug = s.haltBug ∧
    (s.raiseInterruptIf p k).fault = s.fault ∧ (s.raiseInterruptIf p k).rom = s.rom ∧
    (s.raiseInterruptIf p k).vram = s.vram ∧ (s.raiseInterruptIf p k).sram = s.sram ∧
    (s.raiseInterruptIf p k).wram = s.wram ∧ (s.raiseInterruptIf p k).oam = s.oam ∧
    (s.raiseInterruptIf p k).romBank = s.romBank ∧ (s.raiseInterruptIf p k).ramBank = s.ramBank ∧
    (s.raiseInterruptIf p k).ppu = s.ppu ∧ (s.raiseInterruptIf p k).nextTick = s.nextTick ∧
    (s.raiseInterruptIf p k).divBase = s.divBase ∧ (s.raiseInterruptIf p k).timerBase = s.timerBase ∧
    (s.raiseInterruptIf p k).timerTicks = s.timerTicks ∧ (s.raiseInterruptIf p k).keys = s.keys ∧
    (s.raiseInterruptIf p k).slot = s.slot ∧ (s.raiseInterruptIf p k).opPc = s.opPc ∧
    (s.raiseInterruptIf p k).cfg = s.cfg ∧ (s.raiseInterruptIf p k).mbcState = s.mbcState ∧
    (s.raiseInterruptIf p k).keysIn = s.keysIn ∧ (s.raiseInterruptIf p k).keysSeen = s.keysSeen ∧
    (s.raiseInterruptIf p k).exitIn = s.exitIn ∧ (s.raiseInterruptIf p k).hostOut = s.hostOut := by
  cases p <;> simp [State.raiseInterruptIf]

/-- A byte of the I/O page after an interrupt is raised on a condition. -/
theorem ioByte_raiseInterruptIf (s : State) (p : Bool) (k o : Nat) :
    (s.raiseInterruptIf p k).ioByte o = if o = 0x0F ∧ p = true then withBit s.ifReg k true else s.ioByte o := by
  cases p <;> simp [State.raiseInterruptIf, State.raiseInterrupt, ioByte_setIo]

/-- The timer catch-up changes TIMA, IF and `timerTicks` only. -/
@[simp] theorem catchUp_fields (s : State) :
    (s.catchUp).a = s.a ∧ (s.catchUp).f = s.f ∧ (s.catchUp).b = s.b ∧ (s.catchUp).c = s.c ∧
    (s.catchUp).d = s.d ∧ (s.catchUp).e = s.e ∧ (s.catchUp).h = s.h ∧ (s.catchUp).l = s.l ∧
    (s.catchUp).sp = s.sp ∧ (s.catchUp).pc = s.pc ∧ (s.catchUp).clocks = s.clocks ∧ (s.catchUp).ime = s.ime ∧
    (s.catchUp).halted = s.halted ∧ (s.catchUp).stopped = s.stopped ∧ (s.catchUp).haltBug = s.haltBug ∧
    (s.catchUp).fault = s.fault ∧ (s.catchUp).rom = s.rom ∧ (s.catchUp).vram = s.vram ∧
    (s.catchUp).sram = s.sram ∧ (s.catchUp).wram = s.wram ∧ (s.catchUp).oam = s.oam ∧
    (s.catchUp).romBank = s.romBank ∧ (s.catchUp).ramBank = s.ramBank ∧ (s.catchUp).ppu = s.ppu ∧
    (s.catchUp).nextTick = s.nextTick ∧ (s.catchUp).divBase = s.divBase ∧ (s.catchUp).timerBase = s.timerBase ∧
    (s.catchUp).keys = s.keys ∧ (s.catchUp).slot = s.slot ∧ (s.catchUp).opPc = s.opPc ∧
    (s.catchUp).cfg = s.cfg ∧ (s.catchUp).mbcState = s.mbcState ∧ (s.catchUp).keysIn = s.keysIn ∧
    (s.catchUp).keysSeen = s.keysSeen ∧ (s.catchUp).exitIn = s.exitIn ∧ (s.catchUp).hostOut = s.hostOut := by
  unfold State.catchUp; split <;> simp

/-- The timer catch-up leaves every byte of the I/O page but TIMA and IF alone. -/
theorem ioByte_catchUp (s : State) (o : Nat) (h5 : o ≠ 0x05) (hf : o ≠ 0x0F) : s.catchUp.ioByte o = s.ioByte o := by
  unfold State.catchUp
  split
  · exact (ioByte_raiseInterruptIf _ _ _ _).trans (by simp [hf, ioByte_setIo, h5])
  · rfl

/-- A bus read changes TIMA, IF and `timerTicks` only. -/
@[simp] theorem afterLoad_fields (s : State) (a : Word) :
    (s.afterLoad a).a = s.a ∧ (s.afterLoad a).f = s.f ∧ (s.afterLoad a).b = s.b ∧ (s.afterLoad a).c = s.c ∧
    (s.afterLoad a).d = s.d ∧ (s.afterLoad a).e = s.e ∧ (s.afterLoad a).h = s.h ∧ (s.afterLoad a).l = s.l ∧
    (s.afterLoad a).sp = s.sp ∧ (s.afterLoad a).pc = s.pc ∧ (s.afterLoad a).clocks = s.clocks ∧
    (s.afterLoad a).ime = s.ime ∧ (s.afterLoad a).halted = s.halted ∧ (s.afterLoad a).stopped = s.stopped ∧
    (s.afterLoad a).haltBug = s.haltBug ∧ (s.afterLoad a).fault = s.fault ∧ (s.afterLoad a).rom = s.rom ∧
    (s.afterLoad a).vram = s.vram ∧ (s.afterLoad a).sram = s.sram ∧ (s.afterLoad a).wram = s.wram ∧
    (s.afterLoad a).oam = s.oam ∧ (s.afterLoad a).romBank = s.romBank ∧ (s.afterLoad a).ramBank = s.ramBank ∧
    (s.afterLoad a).ppu = s.ppu ∧ (s.afterLoad a).nextTick = s.nextTick ∧ (s.afterLoad a).divBase = s.divBase ∧
    (s.afterLoad a).timerBase = s.timerBase ∧ (s.afterLoad a).keys = s.keys ∧ (s.afterLoad a).slot = s.slot ∧
    (s.afterLoad a).opPc = s.opPc ∧ (s.afterLoad a).cfg = s.cfg ∧ (s.afterLoad a).mbcState = s.mbcState ∧
    (s.afterLoad a).keysIn = s.keysIn ∧ (s.afterLoad a).keysSeen = s.keysSeen ∧
    (s.afterLoad a).exitIn = s.exitIn ∧ (s.afterLoad a).hostOut = s.hostOut := by
  unfold State.afterLoad; split <;> simp

/-- A bus read of any address but TIMA's changes nothing. -/
theorem afterLoad_of_ne (s : State) (a : Word) (h : a ≠ 0xFF05) : s.afterLoad a = s := by
  simp only [State.afterLoad, beq_iff_eq, if_neg h]

/-- SetLY changes the I/O page only. -/
@[simp] theorem setLy_fields (s : State) (v : Byte) :
    (s.setLy v).a = s.a ∧ (s.setLy v).f = s.f ∧ (s.setLy v).b = s.b ∧ (s.setLy v).c = s.c ∧
    (s.setLy v).d = s.d ∧ (s.setLy v).e = s.e ∧ (s.setLy v).h = s.h ∧ (s.setLy v).l = s.l ∧
    (s.setLy v).sp = s.sp ∧ (s.setLy v).pc = s.pc ∧ (s.setLy v).clocks = s.clocks ∧ (s.setLy v).ime = s.ime ∧
    (s.setLy v).halted = s.halted ∧ (s.setLy v).stopped = s.stopped ∧ (s.setLy v).haltBug = s.haltBug ∧
    (s.setLy v).fault = s.fault ∧ (s.setLy v).rom = s.rom ∧ (s.setLy v).vram = s.vram ∧
    (s.setLy v).sram = s.sram ∧ (s.setLy v).wram = s.wram ∧ (s.setLy v).oam = s.oam ∧
    (s.setLy v).romBank = s.romBank ∧ (s.setLy v).ramBank = s.ramBank ∧ (s.setLy v).ppu = s.ppu ∧
    (s.setLy v).nextTick = s.nextTick ∧ (s.setLy v).divBase = s.divBase ∧ (s.setLy v).timerBase = s.timerBase ∧
    (s.setLy v).timerTicks = s.timerTicks ∧ (s.setLy v).keys = s.keys ∧ (s.setLy v).slot = s.slot ∧
    (s.setLy v).opPc = s.opPc ∧ (s.setLy v).cfg = s.cfg ∧ (s.setLy v).mbcState = s.mbcState ∧
    (s.setLy v).keysIn = s.keysIn ∧ (s.setLy v).keysSeen = s.keysSeen ∧ (s.setLy v).exitIn = s.exitIn ∧
    (s.setLy v).hostOut = s.hostOut := by
  simp [State.setLy]

/-- The H-blank check changes IF only. -/
@[simp] theorem hblankCheck_fields (s : State) :
    (s.hblankCheck).a = s.a ∧ (s.hblankCheck).f = s.f ∧ (s.hblankCheck).b = s.b ∧ (s.hblankCheck).c = s.c ∧
    (s.hblankCheck).d = s.d ∧ (s.hblankCheck).e = s.e ∧ (s.hblankCheck).h = s.h ∧ (s.hblankCheck).l = s.l ∧
    (s.hblankCheck).sp = s.sp ∧ (s.hblankCheck).pc = s.pc ∧ (s.hblankCheck).clocks = s.clocks ∧
    (s.hblankCheck).ime = s.ime ∧ (s.hblankCheck).halted = s.halted ∧ (s.hblankCheck).stopped = s.stopped ∧
    (s.hblankCheck).haltBug = s.haltBug ∧ (s.hblankCheck).fault = s.fault ∧ (s.hblankCheck).rom = s.rom ∧
    (s.hblankCheck).vram = s.vram ∧ (s.hblankCheck).sram = s.sram ∧ (s.hblankCheck).wram = s.wram ∧
    (s.hblankCheck).oam = s.oam ∧ (s.hblankCheck).romBank = s.romBank ∧ (s.hblankCheck).ramBank = s.ramBank ∧
    (s.hblankCheck).ppu = s.ppu ∧ (s.hblankCheck).nextTick = s.nextTick ∧ (s.hblankCheck).divBase = s.divBase ∧
    (s.hblankCheck).timerBase = s.timerBase ∧ (s.hblankCheck).timerTicks = s.timerTicks ∧
    (s.hblankCheck).keys = s.keys ∧ (s.hblankCheck).slot = s.slot ∧ (s.hblankCheck).opPc = s.opPc ∧
    (s.hblankCheck).cfg = s.cfg ∧ (s.hblankCheck).mbcState = s.mbcState ∧ (s.hblankCheck).keysIn = s.keysIn ∧
    (s.hblankCheck).keysSeen = s.keysSeen ∧ (s.hblankCheck).exitIn = s.exitIn ∧
    (s.hblankCheck).hostOut = s.hostOut := by
  simp [State.hblankCheck]

/-- V-blank entry changes IF only. -/
@[simp] theorem vblankInterrupts_fields (s : State) :
    (s.vblankInterrupts).a = s.a ∧ (s.vblankInterrupts).f = s.f ∧ (s.vblankInterrupts).b = s.b ∧
    (s.vblankInterrupts).c = s.c ∧ (s.vblankInterrupts).d = s.d ∧ (s.vblankInterrupts).e = s.e ∧
    (s.vblankInterrupts).h = s.h ∧ (s.vblankInterrupts).l = s.l ∧ (s.vblankInterrupts).sp = s.sp ∧
    (s.vblankInterrupts).pc = s.pc ∧ (s.vblankInterrupts).clocks = s.clocks ∧
    (s.vblankInterrupts).ime = s.ime ∧ (s.vblankInterrupts).halted = s.halted ∧
    (s.vblankInterrupts).stopped = s.stopped ∧ (s.vblankInterrupts).haltBug = s.haltBug ∧
    (s.vblankInterrupts).fault = s.fault ∧ (s.vblankInterrupts).rom = s.rom ∧
    (s.vblankInterrupts).vram = s.vram ∧ (s.vblankInterrupts).sram = s.sram ∧
    (s.vblankInterrupts).wram = s.wram ∧ (s.vblankInterrupts).oam = s.oam ∧
    (s.vblankInterrupts).romBank = s.romBank ∧ (s.vblankInterrupts).ramBank = s.ramBank ∧
    (s.vblankInterrupts).ppu = s.ppu ∧ (s.vblankInterrupts).nextTick = s.nextTick ∧
    (s.vblankInterrupts).divBase = s.divBase ∧ (s.vblankInterrupts).timerBase = s.timerBase ∧
    (s.vblankInterrupts).timerTicks = s.timerTicks ∧ (s.vblankInterrupts).keys = s.keys ∧
    (s.vblankInterrupts).slot = s.slot ∧ (s.vblankInterrupts).opPc = s.opPc ∧
    (s.vblankInterrupts).cfg = s.cfg ∧ (s.vblankInterrupts).mbcState = s.mbcState ∧
    (s.vblankInterrupts).keysIn = s.keysIn ∧ (s.vblankInterrupts).keysSeen = s.keysSeen ∧
    (s.vblankInterrupts).exitIn = s.exitIn ∧ (s.vblankInterrupts).hostOut = s.hostOut := by
  simp [State.vblankInterrupts]

/-- The OAM check changes IF only. -/
@[simp] theorem oamCheck_fields (s : State) (prev : Option Byte) :
    (s.oamCheck prev).a = s.a ∧ (s.oamCheck prev).f = s.f ∧ (s.oamCheck prev).b = s.b ∧
    (s.oamCheck prev).c = s.c ∧ (s.oamCheck prev).d = s.d ∧ (s.oamCheck prev).e = s.e ∧
    (s.oamCheck prev).h = s.h ∧ (s.oamCheck prev).l = s.l ∧ (s.oamCheck prev).sp = s.sp ∧
    (s.oamCheck prev).pc = s.pc ∧ (s.oamCheck prev).clocks = s.clocks ∧ (s.oamCheck prev).ime = s.ime ∧
    (s.oamCheck prev).halted = s.halted ∧ (s.oamCheck prev).stopped = s.stopped ∧
    (s.oamCheck prev).haltBug = s.haltBug ∧ (s.oamCheck prev).fault = s.fault ∧ (s.oamCheck prev).rom = s.rom ∧
    (s.oamCheck prev).vram = s.vram ∧ (s.oamCheck prev).sram = s.sram ∧ (s.oamCheck prev).wram = s.wram ∧
    (s.oamCheck prev).oam = s.oam ∧ (s.oamCheck prev).romBank = s.romBank ∧
    (s.oamCheck prev).ramBank = s.ramBank ∧ (s.oamCheck prev).ppu = s.ppu ∧
    (s.oamCheck prev).nextTick = s.nextTick ∧ (s.oamCheck prev).divBase = s.divBase ∧
    (s.oamCheck prev).timerBase = s.timerBase ∧ (s.oamCheck prev).timerTicks = s.timerTicks ∧
    (s.oamCheck prev).keys = s.keys ∧ (s.oamCheck prev).slot = s.slot ∧ (s.oamCheck prev).opPc = s.opPc ∧
    (s.oamCheck prev).cfg = s.cfg ∧ (s.oamCheck prev).mbcState = s.mbcState ∧
    (s.oamCheck prev).keysIn = s.keysIn ∧ (s.oamCheck prev).keysSeen = s.keysSeen ∧
    (s.oamCheck prev).exitIn = s.exitIn ∧ (s.oamCheck prev).hostOut = s.hostOut := by
  simp [State.oamCheck]

/-- A PPU transition changes neither registers nor any buffer but `io`, and never `clocks` (R229). -/
@[simp] theorem ppuTransition_fields (s : State) :
    (s.ppuTransition).a = s.a ∧ (s.ppuTransition).f = s.f ∧ (s.ppuTransition).b = s.b ∧
    (s.ppuTransition).c = s.c ∧ (s.ppuTransition).d = s.d ∧ (s.ppuTransition).e = s.e ∧
    (s.ppuTransition).h = s.h ∧ (s.ppuTransition).l = s.l ∧ (s.ppuTransition).sp = s.sp ∧
    (s.ppuTransition).pc = s.pc ∧ (s.ppuTransition).clocks = s.clocks ∧ (s.ppuTransition).ime = s.ime ∧
    (s.ppuTransition).halted = s.halted ∧ (s.ppuTransition).haltBug = s.haltBug ∧
    (s.ppuTransition).fault = s.fault ∧ (s.ppuTransition).rom = s.rom ∧ (s.ppuTransition).vram = s.vram ∧
    (s.ppuTransition).sram = s.sram ∧ (s.ppuTransition).wram = s.wram ∧ (s.ppuTransition).oam = s.oam ∧
    (s.ppuTransition).romBank = s.romBank ∧ (s.ppuTransition).ramBank = s.ramBank ∧
    (s.ppuTransition).divBase = s.divBase ∧ (s.ppuTransition).timerBase = s.timerBase ∧
    (s.ppuTransition).timerTicks = s.timerTicks ∧ (s.ppuTransition).slot = s.slot ∧
    (s.ppuTransition).opPc = s.opPc ∧ (s.ppuTransition).cfg = s.cfg ∧ (s.ppuTransition).mbcState = s.mbcState ∧
    (s.ppuTransition).exitIn = s.exitIn := by
  unfold State.ppuTransition
  split
  · simp [State.oamDeadline]
  · simp [State.vramDeadline]
  · unfold State.hblankDeadline; dsimp only; split <;> simp
  · unfold State.vblankDeadline State.enterLcdOff; split
    · split <;> simp
    · split
      · simp
      · split <;> simp
  · unfold State.lcdOffDeadline; dsimp only; split <;> simp

/-- The PPU step's loop changes what its transitions change. -/
@[simp] theorem ppuLoop_fields (s : State) (n : Nat) :
    (ppuLoop n s).a = s.a ∧ (ppuLoop n s).f = s.f ∧ (ppuLoop n s).b = s.b ∧ (ppuLoop n s).c = s.c ∧
    (ppuLoop n s).d = s.d ∧ (ppuLoop n s).e = s.e ∧ (ppuLoop n s).h = s.h ∧ (ppuLoop n s).l = s.l ∧
    (ppuLoop n s).sp = s.sp ∧ (ppuLoop n s).pc = s.pc ∧ (ppuLoop n s).clocks = s.clocks ∧
    (ppuLoop n s).ime = s.ime ∧ (ppuLoop n s).halted = s.halted ∧ (ppuLoop n s).haltBug = s.haltBug ∧
    (ppuLoop n s).fault = s.fault ∧ (ppuLoop n s).rom = s.rom ∧ (ppuLoop n s).vram = s.vram ∧
    (ppuLoop n s).sram = s.sram ∧ (ppuLoop n s).wram = s.wram ∧ (ppuLoop n s).oam = s.oam ∧
    (ppuLoop n s).romBank = s.romBank ∧ (ppuLoop n s).ramBank = s.ramBank ∧ (ppuLoop n s).divBase = s.divBase ∧
    (ppuLoop n s).timerBase = s.timerBase ∧ (ppuLoop n s).timerTicks = s.timerTicks ∧
    (ppuLoop n s).slot = s.slot ∧ (ppuLoop n s).opPc = s.opPc ∧ (ppuLoop n s).cfg = s.cfg ∧
    (ppuLoop n s).mbcState = s.mbcState ∧ (ppuLoop n s).exitIn = s.exitIn := by
  induction n generalizing s with
  | zero => simp [ppuLoop]
  | succ n ih => unfold ppuLoop; split <;> simp [ih]

/-- The PPU step changes what its transitions change. -/
@[simp] theorem ppuStep_fields (s : State) :
    (s.ppuStep).a = s.a ∧ (s.ppuStep).f = s.f ∧ (s.ppuStep).b = s.b ∧ (s.ppuStep).c = s.c ∧
    (s.ppuStep).d = s.d ∧ (s.ppuStep).e = s.e ∧ (s.ppuStep).h = s.h ∧ (s.ppuStep).l = s.l ∧
    (s.ppuStep).sp = s.sp ∧ (s.ppuStep).pc = s.pc ∧ (s.ppuStep).clocks = s.clocks ∧ (s.ppuStep).ime = s.ime ∧
    (s.ppuStep).halted = s.halted ∧ (s.ppuStep).haltBug = s.haltBug ∧ (s.ppuStep).fault = s.fault ∧
    (s.ppuStep).rom = s.rom ∧ (s.ppuStep).vram = s.vram ∧ (s.ppuStep).sram = s.sram ∧
    (s.ppuStep).wram = s.wram ∧ (s.ppuStep).oam = s.oam ∧ (s.ppuStep).romBank = s.romBank ∧
    (s.ppuStep).ramBank = s.ramBank ∧ (s.ppuStep).divBase = s.divBase ∧ (s.ppuStep).timerBase = s.timerBase ∧
    (s.ppuStep).timerTicks = s.timerTicks ∧ (s.ppuStep).slot = s.slot ∧ (s.ppuStep).opPc = s.opPc ∧
    (s.ppuStep).cfg = s.cfg ∧ (s.ppuStep).mbcState = s.mbcState ∧ (s.ppuStep).exitIn = s.exitIn := by
  simp [State.ppuStep]

/-! ## The stack and the fetch -/

/-- Half a pop changes SP, and what a bus read changes. -/
@[simp] theorem afterPopByte_fields (s : State) :
    (s.afterPopByte).a = s.a ∧ (s.afterPopByte).f = s.f ∧ (s.afterPopByte).b = s.b ∧ (s.afterPopByte).c = s.c ∧
    (s.afterPopByte).d = s.d ∧ (s.afterPopByte).e = s.e ∧ (s.afterPopByte).h = s.h ∧ (s.afterPopByte).l = s.l ∧
    (s.afterPopByte).pc = s.pc ∧ (s.afterPopByte).clocks = s.clocks ∧ (s.afterPopByte).ime = s.ime ∧
    (s.afterPopByte).halted = s.halted ∧ (s.afterPopByte).stopped = s.stopped ∧
    (s.afterPopByte).haltBug = s.haltBug ∧ (s.afterPopByte).fault = s.fault ∧ (s.afterPopByte).rom = s.rom ∧
    (s.afterPopByte).vram = s.vram ∧ (s.afterPopByte).sram = s.sram ∧ (s.afterPopByte).wram = s.wram ∧
    (s.afterPopByte).oam = s.oam ∧ (s.afterPopByte).romBank = s.romBank ∧
    (s.afterPopByte).ramBank = s.ramBank ∧ (s.afterPopByte).ppu = s.ppu ∧
    (s.afterPopByte).nextTick = s.nextTick ∧ (s.afterPopByte).divBase = s.divBase ∧
    (s.afterPopByte).timerBase = s.timerBase ∧ (s.afterPopByte).keys = s.keys ∧
    (s.afterPopByte).slot = s.slot ∧ (s.afterPopByte).opPc = s.opPc ∧ (s.afterPopByte).cfg = s.cfg ∧
    (s.afterPopByte).mbcState = s.mbcState ∧ (s.afterPopByte).keysIn = s.keysIn ∧
    (s.afterPopByte).keysSeen = s.keysSeen ∧ (s.afterPopByte).exitIn = s.exitIn ∧
    (s.afterPopByte).hostOut = s.hostOut := by
  simp [State.afterPopByte]

@[simp] theorem afterPopByte_sp (s : State) : s.afterPopByte.sp = s.sp + 1 := by simp [State.afterPopByte]

/-- A pop changes SP, and what a bus read changes. -/
@[simp] theorem afterPop_fields (s : State) :
    (s.afterPop).a = s.a ∧ (s.afterPop).f = s.f ∧ (s.afterPop).b = s.b ∧ (s.afterPop).c = s.c ∧
    (s.afterPop).d = s.d ∧ (s.afterPop).e = s.e ∧ (s.afterPop).h = s.h ∧ (s.afterPop).l = s.l ∧
    (s.afterPop).pc = s.pc ∧ (s.afterPop).clocks = s.clocks ∧ (s.afterPop).ime = s.ime ∧
    (s.afterPop).halted = s.halted ∧ (s.afterPop).stopped = s.stopped ∧ (s.afterPop).haltBug = s.haltBug ∧
    (s.afterPop).fault = s.fault ∧ (s.afterPop).rom = s.rom ∧ (s.afterPop).vram = s.vram ∧
    (s.afterPop).sram = s.sram ∧ (s.afterPop).wram = s.wram ∧ (s.afterPop).oam = s.oam ∧
    (s.afterPop).romBank = s.romBank ∧ (s.afterPop).ramBank = s.ramBank ∧ (s.afterPop).ppu = s.ppu ∧
    (s.afterPop).nextTick = s.nextTick ∧ (s.afterPop).divBase = s.divBase ∧
    (s.afterPop).timerBase = s.timerBase ∧ (s.afterPop).keys = s.keys ∧ (s.afterPop).slot = s.slot ∧
    (s.afterPop).opPc = s.opPc ∧ (s.afterPop).cfg = s.cfg ∧ (s.afterPop).mbcState = s.mbcState ∧
    (s.afterPop).keysIn = s.keysIn ∧ (s.afterPop).keysSeen = s.keysSeen ∧ (s.afterPop).exitIn = s.exitIn ∧
    (s.afterPop).hostOut = s.hostOut := by
  simp [State.afterPop]

@[simp] theorem afterPop_sp (s : State) : s.afterPop.sp = s.sp + 2 := by
  simp [State.afterPop, BitVec.add_assoc]

/-- A fetch changes PC, the halt-bug latch, and what a bus read changes. -/
@[simp] theorem afterFetch_fields (s : State) :
    (s.afterFetch).a = s.a ∧ (s.afterFetch).f = s.f ∧ (s.afterFetch).b = s.b ∧ (s.afterFetch).c = s.c ∧
    (s.afterFetch).d = s.d ∧ (s.afterFetch).e = s.e ∧ (s.afterFetch).h = s.h ∧ (s.afterFetch).l = s.l ∧
    (s.afterFetch).sp = s.sp ∧ (s.afterFetch).clocks = s.clocks ∧ (s.afterFetch).ime = s.ime ∧
    (s.afterFetch).halted = s.halted ∧ (s.afterFetch).stopped = s.stopped ∧ (s.afterFetch).fault = s.fault ∧
    (s.afterFetch).rom = s.rom ∧ (s.afterFetch).vram = s.vram ∧ (s.afterFetch).sram = s.sram ∧
    (s.afterFetch).wram = s.wram ∧ (s.afterFetch).oam = s.oam ∧ (s.afterFetch).romBank = s.romBank ∧
    (s.afterFetch).ramBank = s.ramBank ∧ (s.afterFetch).ppu = s.ppu ∧ (s.afterFetch).nextTick = s.nextTick ∧
    (s.afterFetch).divBase = s.divBase ∧ (s.afterFetch).timerBase = s.timerBase ∧
    (s.afterFetch).keys = s.keys ∧ (s.afterFetch).slot = s.slot ∧ (s.afterFetch).opPc = s.opPc ∧
    (s.afterFetch).cfg = s.cfg ∧ (s.afterFetch).mbcState = s.mbcState ∧ (s.afterFetch).keysIn = s.keysIn ∧
    (s.afterFetch).keysSeen = s.keysSeen ∧ (s.afterFetch).exitIn = s.exitIn ∧
    (s.afterFetch).hostOut = s.hostOut := by
  unfold State.afterFetch; dsimp only; split <;> simp

/-- Fetches change PC, the halt-bug latch, and what a bus read changes. -/
@[simp] theorem fetchMore_fields (s : State) (n : Nat) :
    (fetchMore n s).a = s.a ∧ (fetchMore n s).f = s.f ∧ (fetchMore n s).b = s.b ∧ (fetchMore n s).c = s.c ∧
    (fetchMore n s).d = s.d ∧ (fetchMore n s).e = s.e ∧ (fetchMore n s).h = s.h ∧ (fetchMore n s).l = s.l ∧
    (fetchMore n s).sp = s.sp ∧ (fetchMore n s).clocks = s.clocks ∧ (fetchMore n s).ime = s.ime ∧
    (fetchMore n s).halted = s.halted ∧ (fetchMore n s).stopped = s.stopped ∧ (fetchMore n s).fault = s.fault ∧
    (fetchMore n s).rom = s.rom ∧ (fetchMore n s).vram = s.vram ∧ (fetchMore n s).sram = s.sram ∧
    (fetchMore n s).wram = s.wram ∧ (fetchMore n s).oam = s.oam ∧ (fetchMore n s).romBank = s.romBank ∧
    (fetchMore n s).ramBank = s.ramBank ∧ (fetchMore n s).ppu = s.ppu ∧ (fetchMore n s).nextTick = s.nextTick ∧
    (fetchMore n s).divBase = s.divBase ∧ (fetchMore n s).timerBase = s.timerBase ∧
    (fetchMore n s).keys = s.keys ∧ (fetchMore n s).slot = s.slot ∧ (fetchMore n s).opPc = s.opPc ∧
    (fetchMore n s).cfg = s.cfg ∧ (fetchMore n s).mbcState = s.mbcState ∧ (fetchMore n s).keysIn = s.keysIn ∧
    (fetchMore n s).keysSeen = s.keysSeen ∧ (fetchMore n s).exitIn = s.exitIn ∧
    (fetchMore n s).hostOut = s.hostOut := by
  induction n generalizing s with
  | zero => simp [fetchMore]
  | succ n ih => simp [fetchMore, ih]

/-- Fetching an instruction changes PC, `opPc`, the halt-bug latch, and what a bus read changes. -/
@[simp] theorem afterInstr_fields (s : State) :
    (s.afterInstr).a = s.a ∧ (s.afterInstr).f = s.f ∧ (s.afterInstr).b = s.b ∧ (s.afterInstr).c = s.c ∧
    (s.afterInstr).d = s.d ∧ (s.afterInstr).e = s.e ∧ (s.afterInstr).h = s.h ∧ (s.afterInstr).l = s.l ∧
    (s.afterInstr).sp = s.sp ∧ (s.afterInstr).clocks = s.clocks ∧ (s.afterInstr).ime = s.ime ∧
    (s.afterInstr).halted = s.halted ∧ (s.afterInstr).stopped = s.stopped ∧ (s.afterInstr).fault = s.fault ∧
    (s.afterInstr).rom = s.rom ∧ (s.afterInstr).vram = s.vram ∧ (s.afterInstr).sram = s.sram ∧
    (s.afterInstr).wram = s.wram ∧ (s.afterInstr).oam = s.oam ∧ (s.afterInstr).romBank = s.romBank ∧
    (s.afterInstr).ramBank = s.ramBank ∧ (s.afterInstr).ppu = s.ppu ∧ (s.afterInstr).nextTick = s.nextTick ∧
    (s.afterInstr).divBase = s.divBase ∧ (s.afterInstr).timerBase = s.timerBase ∧
    (s.afterInstr).keys = s.keys ∧ (s.afterInstr).slot = s.slot ∧ (s.afterInstr).cfg = s.cfg ∧
    (s.afterInstr).mbcState = s.mbcState ∧ (s.afterInstr).keysIn = s.keysIn ∧
    (s.afterInstr).keysSeen = s.keysSeen ∧ (s.afterInstr).exitIn = s.exitIn ∧
    (s.afterInstr).hostOut = s.hostOut := by
  simp [State.afterInstr, State.atFetch]

end Sys2Proof.Machine
end

