-- ==== Sys2Proof/Laws/Bus.lean ====
section
/-! SUPPORT. What the bus operations can do, said once: sequencing, bank hooks, the byte store, the push, and that the bus
does not look at the CPU's registers. -/

namespace Sys2Proof.Machine

/-! ## Sequencing -/

@[simp] theorem seq_next (s : State) (k : State → Result) : seq (.next s) k = k s := rfl

/-- A sequence answers a next state exactly if its parts do. -/
theorem seq_eq_next {r : Result} {k : State → Result} {t : State} :
    seq r k = .next t ↔ ∃ u, r = .next u ∧ k u = .next t := by
  cases r <;> simp [seq]

/-- A sequence of parts that never fault never faults. -/
theorem seq_ne_fault {r : Result} {k : State → Result} (hr : ∀ f, r ≠ .fault f) (hk : ∀ u f, k u ≠ .fault f) (f : Fault) :
    seq r k ≠ .fault f := by
  cases r with
  | next u => exact hk u f
  | fault g => exact absurd rfl (hr g)
  | refused e => simp [seq]

/-! ## The bank controller -/

/-- A bank hook writes the two bank registers at most. -/
theorem bankHook_next {s t : State} {k : BankHook} (h : s.bankHook k = .next t) :
    t = { s with romBank := t.romBank, ramBank := t.ramBank } := by
  cases k with
  | selectRomBank n =>
    simp only [State.bankHook] at h
    split at h <;> cases h
    rfl
  | selectRamBank n =>
    simp only [State.bankHook] at h
    split at h
    · cases h; rfl
    · split at h <;> cases h
      rfl

/-- Bank hooks write the two bank registers at most. -/
theorem bankHooks_next {ks : List BankHook} {s t : State} (h : bankHooks ks s = .next t) :
    t = { s with romBank := t.romBank, ramBank := t.ramBank } := by
  induction ks generalizing s with
  | nil => cases h; rfl
  | cons k ks ih =>
    obtain ⟨u, hu, ht⟩ := seq_eq_next.mp h
    have h1 := bankHook_next hu
    have h2 := ih ht
    rw [h1] at h2
    exact h2

/-- MBC_WRITE records the write for the host, and writes the banks and the controller's own state at most (R13). -/
theorem mbcWrite_next {s t : State} {a : Word} {v : Byte} (h : s.mbcWrite a v = .next t) :
    t = { s with
      romBank := t.romBank, ramBank := t.ramBank, mbcState := t.mbcState, hostOut := .mbcWrite a v :: s.hostOut } := by
  unfold State.mbcWrite at h
  split at h
  · cases h; rfl
  · have := bankHooks_next h
    rw [this]
    rfl

/-- With every hook call in range, the bank controller always answers a next state. -/
theorem bankHooks_total {ks : List BankHook} {s : State} (h : ks.all s.cfg.hookInRange = true) :
    ∃ t, bankHooks ks s = .next t := by
  induction ks generalizing s with
  | nil => exact ⟨s, rfl⟩
  | cons k ks ih =>
    simp only [List.all_cons, Bool.and_eq_true] at h
    have hk : ∃ u, s.bankHook k = .next u := by
      cases k with
      | selectRomBank n =>
        have h1 : n < s.cfg.romBanks := by simpa [Config.hookInRange] using h.1
        exact ⟨_, by simp only [State.bankHook, if_pos h1]; rfl⟩
      | selectRamBank n =>
        have h1 : s.cfg.ramBanks = 0 ∨ n < s.cfg.ramBanks := by simpa [Config.hookInRange] using h.1
        by_cases h0 : s.cfg.ramBanks = 0
        · exact ⟨_, by simp only [State.bankHook, if_pos h0]; rfl⟩
        · exact ⟨_, by simp only [State.bankHook, if_neg h0, if_pos (h1.resolve_left h0)]; rfl⟩
    obtain ⟨u, hu⟩ := hk
    have hc : u.cfg = s.cfg := by rw [bankHook_next hu]
    obtain ⟨t, ht⟩ := ih (s := u) (by rw [hc]; exact h.2)
    exact ⟨t, seq_eq_next.mpr ⟨u, hu, ht⟩⟩

theorem bankHook_ne_fault (k : BankHook) (s : State) (f : Fault) : s.bankHook k ≠ .fault f := by
  cases k with
  | selectRomBank n => simp only [State.bankHook]; split <;> simp
  | selectRamBank n =>
    simp only [State.bankHook]
    split
    · simp
    · split <;> simp

theorem bankHooks_ne_fault (ks : List BankHook) (s : State) (f : Fault) : bankHooks ks s ≠ .fault f := by
  induction ks generalizing s with
  | nil => simp [bankHooks]
  | cons k ks ih =>
    cases hk : s.bankHook k with
    | next u => rw [bankHooks, hk]; exact ih u
    | fault g => exact absurd hk (bankHook_ne_fault k s g)
    | refused e => simp [bankHooks, hk, seq]

/-! ## The byte store -/

/-- The OAM DMA writes the OAM page only (R71). -/
theorem dmaCopy_eq (v : Byte) (n : Nat) (s : State) : dmaCopy v n s = { s with oam := (dmaCopy v n s).oam } := by
  induction n with
  | zero => rfl
  | succ n ih =>
    simp only [dmaCopy, State.writePlace, State.setBuffer]
    generalize Memory.write _ _ _ _ = m
    rw [ih]

/-- The OAM DMA writes the OAM page only, field by field. -/
@[simp] theorem dmaCopy_fields (s : State) (v : Byte) (n : Nat) :
    (dmaCopy v n s).a = s.a ∧ (dmaCopy v n s).f = s.f ∧ (dmaCopy v n s).b = s.b ∧ (dmaCopy v n s).c = s.c ∧
    (dmaCopy v n s).d = s.d ∧ (dmaCopy v n s).e = s.e ∧ (dmaCopy v n s).h = s.h ∧ (dmaCopy v n s).l = s.l ∧
    (dmaCopy v n s).sp = s.sp ∧ (dmaCopy v n s).pc = s.pc ∧ (dmaCopy v n s).clocks = s.clocks ∧
    (dmaCopy v n s).ime = s.ime ∧ (dmaCopy v n s).halted = s.halted ∧ (dmaCopy v n s).stopped = s.stopped ∧
    (dmaCopy v n s).haltBug = s.haltBug ∧ (dmaCopy v n s).fault = s.fault ∧ (dmaCopy v n s).rom = s.rom ∧
    (dmaCopy v n s).vram = s.vram ∧ (dmaCopy v n s).sram = s.sram ∧ (dmaCopy v n s).wram = s.wram ∧
    (dmaCopy v n s).io = s.io ∧ (dmaCopy v n s).romBank = s.romBank ∧ (dmaCopy v n s).ramBank = s.ramBank ∧
    (dmaCopy v n s).ppu = s.ppu ∧ (dmaCopy v n s).nextTick = s.nextTick ∧ (dmaCopy v n s).divBase = s.divBase ∧
    (dmaCopy v n s).timerBase = s.timerBase ∧ (dmaCopy v n s).timerTicks = s.timerTicks ∧
    (dmaCopy v n s).keys = s.keys ∧ (dmaCopy v n s).slot = s.slot ∧ (dmaCopy v n s).opPc = s.opPc ∧
    (dmaCopy v n s).cfg = s.cfg ∧ (dmaCopy v n s).mbcState = s.mbcState ∧ (dmaCopy v n s).keysIn = s.keysIn ∧
    (dmaCopy v n s).keysSeen = s.keysSeen ∧ (dmaCopy v n s).exitIn = s.exitIn ∧
    (dmaCopy v n s).hostOut = s.hostOut := by
  rw [dmaCopy_eq]
  repeat' constructor

/-- The timer catch-up changes TIMA, IF and `timerTicks` only (R222). -/
theorem catchUp_eq (s : State) : s.catchUp = { s with io := s.catchUp.io, timerTicks := s.catchUp.timerTicks } := by
  apply State.ext <;> simp

/-- A special write changes the I/O page, the OAM page (by DMA) and the timer's anchors at most (R66 to R72). -/
theorem specialStore_eq (s : State) (o v : Byte) :
    s.specialStore o v = { s with
      io := (s.specialStore o v).io, oam := (s.specialStore o v).oam, divBase := (s.specialStore o v).divBase,
      timerBase := (s.specialStore o v).timerBase, timerTicks := (s.specialStore o v).timerTicks } := by
  have hd : ∀ n, dmaCopy v n (s.setIo 0x46 v) = { s with
      io := (dmaCopy v n (s.setIo 0x46 v)).io, oam := (dmaCopy v n (s.setIo 0x46 v)).oam,
      divBase := (dmaCopy v n (s.setIo 0x46 v)).divBase, timerBase := (dmaCopy v n (s.setIo 0x46 v)).timerBase,
      timerTicks := (dmaCopy v n (s.setIo 0x46 v)).timerTicks } := by
    intro n
    apply State.ext <;> simp
  unfold State.specialStore
  repeat' split
  · apply State.ext <;> simp [State.writeDiv]
  · apply State.ext <;> simp [State.writeTima]
  · apply State.ext <;> simp [State.writeTma]
  · apply State.ext <;> simp [State.writeTac]
  · rfl
  · rfl
  · exact hd 160
  · rfl

/-- Everything a byte store can change (R56): the RAM buffers and the I/O page, the timer's anchors, the banks, the bank
controller's own state and the record of calls to the host. No register, no latch, not `clocks`, not ROM. -/
theorem store_next {s t : State} {a : Word} {v : Byte} (h : s.store a v = .next t) :
    t = { s with
      vram := t.vram, sram := t.sram, wram := t.wram, oam := t.oam, io := t.io, romBank := t.romBank,
      ramBank := t.ramBank, divBase := t.divBase, timerBase := t.timerBase, timerTicks := t.timerTicks,
      mbcState := t.mbcState, hostOut := t.hostOut } := by
  unfold State.store at h
  split at h
  · have := mbcWrite_next h
    rw [this]
  · split at h
    · cases h
      rw [specialStore_eq]
    · next h1 _ =>
      cases h
      have hp : ∀ off, s.place a ≠ .cell .rom off := by
        intro off
        simp only [State.place]
        repeat' split
        all_goals first | omega | simp
      cases hq : s.place a with
      | disabled => rfl
      | cell b off =>
        cases b with
        | rom => exact absurd hq (hp off)
        | vram => rfl
        | sram => rfl
        | wram => rfl
        | oam => rfl
        | io => rfl

/-- With every hook call of the bank controller in range, a byte store always answers a next state (R56). -/
theorem store_total {s : State} (h : s.cfg.wf = true) (a : Word) (v : Byte) : ∃ t, s.store a v = .next t := by
  unfold State.store
  split
  · unfold State.mbcWrite
    split
    · exact ⟨_, rfl⟩
    · next r hr =>
      apply bankHooks_total
      simp only [Config.wf, Bool.and_eq_true, List.all_eq_true] at h
      exact List.all_eq_true.mpr (h.2 r (List.mem_of_find?_eq_some hr))
  · split <;> exact ⟨_, rfl⟩

/-- A byte store never faults (R56). -/
theorem store_ne_fault (s : State) (a : Word) (v : Byte) (f : Fault) : s.store a v ≠ .fault f := by
  unfold State.store
  split
  · unfold State.mbcWrite
    split
    · simp
    · exact bankHooks_ne_fault _ _ f
  · split <;> simp

/-- A byte store keeps the parameters. -/
theorem store_cfg {s t : State} {a : Word} {v : Byte} (h : s.store a v = .next t) : t.cfg = s.cfg := by
  rw [store_next h]

/-! ## The bus does not look at the CPU -/

/-- `s` with the registers, the latches and the place in the batch of `u`. -/
def State.withCpu (s u : State) : State :=
  { s with
    a := u.a, f := u.f, b := u.b, c := u.c, d := u.d, e := u.e, h := u.h, l := u.l, sp := u.sp, pc := u.pc,
    ime := u.ime, halted := u.halted, haltBug := u.haltBug, fault := u.fault, opPc := u.opPc, slot := u.slot }

/-- A result with the CPU of `u`. -/
def mapCpu (u : State) (r : Result) : Result := seq r fun t => .next (t.withCpu u)

theorem catchUp_withCpu (s u : State) : (s.withCpu u).catchUp = s.catchUp.withCpu u := by
  have h1 : (s.withCpu u).tac = s.tac := rfl
  have h2 : (s.withCpu u).timerTarget = s.timerTarget := rfl
  have h3 : (s.withCpu u).timerTicks = s.timerTicks := rfl
  unfold State.catchUp
  rw [h1, h2, h3]
  by_cases h : (timerEnabled s.tac && decide (s.timerTicks < s.timerTarget)) = true
  · rw [if_pos h, if_pos h]
    have h4 : (s.withCpu u).tma = s.tma := rfl
    have h5 : (s.withCpu u).tima = s.tima := rfl
    dsimp only
    rw [h4, h5]
    cases (timerTicksFrom s.tma (s.timerTarget - s.timerTicks) s.tima).2 <;> rfl
  · rw [if_neg h, if_neg h]

theorem dmaCopy_withCpu (v : Byte) (n : Nat) (s u : State) :
    dmaCopy v n (s.withCpu u) = (dmaCopy v n s).withCpu u := by
  induction n with
  | zero => rfl
  | succ n ih =>
    simp only [dmaCopy]
    rw [ih]
    rfl

theorem specialStore_withCpu (s u : State) (o v : Byte) :
    (s.withCpu u).specialStore o v = (s.specialStore o v).withCpu u := by
  have hd : ∀ n, dmaCopy v n ((s.withCpu u).setIo 0x46 v) = (dmaCopy v n (s.setIo 0x46 v)).withCpu u :=
    fun n => dmaCopy_withCpu v n (s.setIo 0x46 v) u
  unfold State.specialStore State.writeDiv State.writeTima State.writeTma State.writeTac State.writeDma
  rw [catchUp_withCpu, hd]
  repeat' split
  all_goals rfl

theorem bankHooks_withCpu (ks : List BankHook) (s u : State) :
    bankHooks ks (s.withCpu u) = mapCpu u (bankHooks ks s) := by
  induction ks generalizing s with
  | nil => rfl
  | cons k ks ih =>
    have hk : (s.withCpu u).bankHook k = mapCpu u (s.bankHook k) := by
      have hc : (s.withCpu u).cfg = s.cfg := rfl
      cases k with
      | selectRomBank n => simp only [State.bankHook, hc]; split <;> rfl
      | selectRamBank n =>
        simp only [State.bankHook, hc]
        split
        · rfl
        · split <;> rfl
    show seq _ _ = _
    rw [hk]
    show seq (seq _ _) _ = mapCpu u (seq (s.bankHook k) (bankHooks ks))
    cases s.bankHook k with
    | next t => exact ih t
    | fault f => rfl
    | refused e => rfl

/-- A byte store does to the rest of the state what it does whatever the CPU holds (R56). -/
theorem store_withCpu (s u : State) (a : Word) (v : Byte) :
    (s.withCpu u).store a v = mapCpu u (s.store a v) := by
  unfold State.store
  split
  · have hc : (s.withCpu u).cfg = s.cfg := rfl
    have hm : (s.withCpu u).mbcState = s.mbcState := rfl
    unfold State.mbcWrite
    rw [hc, hm]
    split
    · rfl
    · next r hr => exact bankHooks_withCpu r.hooks { s.emit (.mbcWrite a v) with mbcState := r.next } u
  · split
    · rw [specialStore_withCpu]; rfl
    · have hp : (s.withCpu u).place a = s.place a := rfl
      rw [hp]
      cases s.place a with
      | disabled => rfl
      | cell b off => cases b <;> rfl

/-! ## The push -/

/-- A push in terms of its two byte stores, with the stack pointer moved at the end (R62). -/
theorem push_eq (s : State) (v : Word) :
    s.push v = seq (s.store (s.sp - 1) (hiByte v)) fun m =>
      seq (m.store (s.sp - 2) (loByte v)) fun t => .next { t with sp := s.sp - 2 } := by
  have h1 : s.pushByte (hiByte v) = seq (s.store (s.sp - 1) (hiByte v)) fun m => .next { m with sp := s.sp - 1 } := by
    have h := store_withCpu s { s with sp := s.sp - 1 } (s.sp - 1) (hiByte v)
    have e : s.withCpu { s with sp := s.sp - 1 } = { s with sp := s.sp - 1 } := rfl
    rw [e] at h
    unfold State.pushByte
    rw [h, mapCpu]
    cases hm : s.store (s.sp - 1) (hiByte v) with
    | next m =>
      show Host.Outcome.next _ = Host.Outcome.next _
      rw [store_next hm]
      rfl
    | fault f => rfl
    | refused e => rfl
  have h2 : ∀ m : State, State.store { m with sp := s.sp - 1 - 1 } (s.sp - 1 - 1) (loByte v) =
      seq (m.store (s.sp - 2) (loByte v)) fun t => .next { t with sp := s.sp - 2 } := by
    intro m
    have hsp : s.sp - 1 - 1 = s.sp - 2 := by bv_omega
    have h := store_withCpu m { m with sp := s.sp - 2 } (s.sp - 2) (loByte v)
    have e : m.withCpu { m with sp := s.sp - 2 } = { m with sp := s.sp - 2 } := rfl
    rw [hsp, ← e, h, mapCpu]
    cases ht : m.store (s.sp - 2) (loByte v) with
    | next t =>
      simp only [seq_next]
      rw [store_next ht]
      rfl
    | fault f => rfl
    | refused e => rfl
  unfold State.push
  rw [h1]
  cases hm : s.store (s.sp - 1) (hiByte v) with
  | fault f => rfl
  | refused e => rfl
  | next m => exact h2 m

/-- With every hook call in range, a push always answers a next state, which keeps the parameters. -/
theorem push_total {s : State} (h : s.cfg.wf = true) (v : Word) : ∃ t, s.push v = .next t := by
  rw [push_eq]
  obtain ⟨m, hm⟩ := store_total h (s.sp - 1) (hiByte v)
  obtain ⟨t, ht⟩ := store_total (s := m) (by rw [store_cfg hm]; exact h) (s.sp - 2) (loByte v)
  exact ⟨_, seq_eq_next.mpr ⟨m, hm, seq_eq_next.mpr ⟨t, ht, rfl⟩⟩⟩

end Sys2Proof.Machine
end

