-- ==== Sys2Proof/Laws/Canonical.lean ====
section
/-! SUPPORT. Every operation over memory keeps every buffer in its canonical form, and the state after reset has it. -/

namespace Sys2Proof.Machine

/-- All buffers are canonical exactly if each is. -/
theorem memWf_iff (s : State) : s.memWf = true ↔ ∀ b, Memory.wf b (s.buffer b) = true := by
  simp only [State.memWf, Bool.and_eq_true]
  constructor
  · rintro ⟨⟨⟨⟨⟨h1, h2⟩, h3⟩, h4⟩, h5⟩, h6⟩ b
    cases b <;> assumption
  · intro h
    exact ⟨⟨⟨⟨⟨h .rom, h .vram⟩, h .sram⟩, h .wram⟩, h .oam⟩, h .io⟩

/-- States with the same buffers are canonical together. -/
theorem memWf_congr {s t : State} (h : ∀ b, t.buffer b = s.buffer b) : t.memWf = s.memWf := by
  have h1 := h .rom
  have h2 := h .vram
  have h3 := h .sram
  have h4 := h .wram
  have h5 := h .oam
  have h6 := h .io
  simp only [State.buffer] at h1 h2 h3 h4 h5 h6
  simp [State.memWf, h1, h2, h3, h4, h5, h6]

/-- Reset lists nothing, so its memory is canonical. -/
theorem memWf_reset : State.reset.memWf = true := by decide

theorem memWf_writePlace {s : State} (p : Place) (v : Byte) (h : s.memWf = true) : (s.writePlace p v).memWf = true := by
  cases p with
  | disabled => exact h
  | cell b off =>
    rw [memWf_iff] at h ⊢
    intro b'
    by_cases hb : b' = b
    · subst hb
      simpa [State.writePlace] using Memory.wf_write (h b')
    · simpa [State.writePlace, hb] using h b'

theorem memWf_setIo {s : State} (o : Nat) (v : Byte) (h : s.memWf = true) : (s.setIo o v).memWf = true :=
  memWf_writePlace (.cell .io o) v h

theorem memWf_raiseInterruptIf {s : State} (p : Bool) (k : Nat) (h : s.memWf = true) :
    (s.raiseInterruptIf p k).memWf = true := by
  cases p
  · exact h
  · exact memWf_setIo _ _ h

theorem memWf_catchUp {s : State} (h : s.memWf = true) : s.catchUp.memWf = true := by
  unfold State.catchUp
  split
  · exact memWf_raiseInterruptIf _ _ (memWf_setIo _ _ h)
  · exact h

theorem memWf_afterLoad {s : State} (a : Word) (h : s.memWf = true) : (s.afterLoad a).memWf = true := by
  unfold State.afterLoad
  split
  · exact memWf_catchUp h
  · exact h

theorem memWf_dmaCopy {s : State} (v : Byte) (n : Nat) (h : s.memWf = true) : (dmaCopy v n s).memWf = true := by
  induction n with
  | zero => exact h
  | succ n ih => exact memWf_writePlace _ _ ih

theorem memWf_specialStore {s : State} (o v : Byte) (h : s.memWf = true) : (s.specialStore o v).memWf = true := by
  unfold State.specialStore
  repeat' split
  · exact memWf_catchUp h
  · exact memWf_setIo _ _ (memWf_catchUp h)
  · exact memWf_setIo _ _ (memWf_catchUp h)
  · exact memWf_setIo _ _ (memWf_catchUp h)
  · exact memWf_setIo _ _ h
  · exact h
  · exact memWf_dmaCopy v 160 (memWf_setIo _ _ h)
  · exact memWf_setIo _ _ h

/-- A byte store keeps every buffer canonical (R56). -/
theorem memWf_store {s t : State} {a : Word} {v : Byte} (hs : s.store a v = .next t) (h : s.memWf = true) :
    t.memWf = true := by
  unfold State.store at hs
  split at hs
  · rw [mbcWrite_next hs]; exact h
  · split at hs <;> cases hs
    · exact memWf_specialStore _ _ h
    · exact memWf_writePlace _ _ h

/-- A push keeps every buffer canonical (R62). -/
theorem memWf_push {s t : State} {v : Word} (hs : s.push v = .next t) (h : s.memWf = true) : t.memWf = true := by
  rw [push_eq] at hs
  obtain ⟨m, hm, hs⟩ := seq_eq_next.mp hs
  obtain ⟨u, hu, hs⟩ := seq_eq_next.mp hs
  cases hs
  have hw : u.memWf = true := memWf_store hu (memWf_store hm h)
  exact hw

theorem memWf_ppuTransition {s : State} (h : s.memWf = true) : s.ppuTransition.memWf = true := by
  have enter : ∀ {u : State} (p : PpuState) (n : Nat), u.memWf = true → (u.enterPpu p n).memWf = true :=
    fun p n hu => memWf_setIo _ _ hu
  have ly : ∀ {u : State} (v : Byte), u.memWf = true → (u.setLy v).memWf = true :=
    fun v hu => memWf_raiseInterruptIf _ _ (memWf_setIo _ _ (memWf_setIo _ _ hu))
  unfold State.ppuTransition
  split
  · exact enter _ _ h
  · exact memWf_raiseInterruptIf _ _ (enter .hblank 204 h)
  · unfold State.hblankDeadline
    dsimp only
    split
    · exact memWf_raiseInterruptIf _ _ (memWf_setIo _ _ (enter .vblank 456 (ly _ h)))
    · exact memWf_raiseInterruptIf _ _ (enter .oam 80 (ly _ h))
  · unfold State.vblankDeadline
    repeat' split
    · exact memWf_raiseInterruptIf _ _ (enter .oam 80 h)
    · exact enter .lcdOff 456 h
    · exact ly _ h
    · exact ly _ h
    · exact ly _ h
  · unfold State.lcdOffDeadline
    dsimp only
    have hr : s.inputRefresh.memWf = true := h
    split
    · exact memWf_raiseInterruptIf _ _ (ly 0 (enter .oam 0 hr))
    · exact hr

/-- The PPU step keeps every buffer canonical (R229). -/
theorem memWf_ppuStep {s : State} (h : s.memWf = true) : s.ppuStep.memWf = true := by
  have loop : ∀ (n : Nat) (u : State), u.memWf = true → (ppuLoop n u).memWf = true := by
    intro n
    induction n with
    | zero => exact fun u hu => hu
    | succ n ih =>
      intro u hu
      unfold ppuLoop
      split
      · exact ih _ (memWf_ppuTransition hu)
      · exact hu
  exact loop _ _ h

end Sys2Proof.Machine
end

