-- ==== Sys2Proof/Laws/Forms.lean ====
section
/-! SUPPORT. What `exec` runs for each group of rows of one shape: the shared operation of its family. -/

namespace Sys2Proof.Machine

/-- A property of every 3-bit field follows from its eight values. -/
theorem forall_bitVec3 {p : BitVec 3 → Prop} (h : ∀ n : Fin 8, p (BitVec.ofFin n)) (k : BitVec 3) : p k := h k.toFin

/-! ## Loads -/

theorem exec_ldRegReg (dst r : Reg8) (s : State) : exec (.ldRegReg dst r) s = ldRegReg dst r s := by
  cases dst <;> cases r <;> rfl
theorem exec_ldRegImm (n : Byte) (r : Reg8) (s : State) : exec (.ldRegImm n r) s = ldRegImm r n s := by
  cases r <;> rfl
theorem exec_ldRegMem (r : Reg8) (s : State) : exec (.ldRegMem r) s = loadReg r s.hl 8 s := by
  cases r <;> rfl
theorem exec_ldMemReg (r : Reg8) (s : State) : exec (.ldMemReg r) s = s.storeThen s.hl (s.get8 r) 8 := by
  cases r <;> rfl
theorem exec_ldPairImm (nn : Word) (r : Reg16) (s : State) : exec (.ldPairImm nn r) s = ldPairImm r nn s := by
  cases r <;> rfl
theorem exec_push (q : StackReg) (s : State) : exec (.push q) s = pushPair q s := by
  cases q <;> rfl
theorem exec_pop (q : StackReg) (s : State) : exec (.pop q) s = popPair q s := by
  cases q <;> rfl

/-! ## Arithmetic -/

theorem exec_aluReg (op : AluOp) (r : Reg8) (s : State) : exec (.aluReg op r) s = aluWith op (s.get8 r) 4 s := by
  cases op <;> cases r <;> rfl
theorem exec_aluMem (op : AluOp) (s : State) : exec (.aluMem op) s = aluMem op s := by
  cases op <;> rfl
theorem exec_aluImm (n : Byte) (op : AluOp) (s : State) : exec (.aluImm n op) s = aluWith op n 8 s := by
  cases op <;> rfl
theorem exec_incReg (r : Reg8) (s : State) : exec (.incReg r) s = incReg r s := by
  cases r <;> rfl
theorem exec_decReg (r : Reg8) (s : State) : exec (.decReg r) s = decReg r s := by
  cases r <;> rfl
theorem exec_incPair (r : Reg16) (s : State) : exec (.incPair r) s = .next ((s.set16 r (s.get16 r + 1)).tick 8) := by
  cases r <;> rfl
theorem exec_decPair (r : Reg16) (s : State) : exec (.decPair r) s = .next ((s.set16 r (s.get16 r - 1)).tick 8) := by
  cases r <;> rfl
theorem exec_addHl (r : Reg16) (s : State) : exec (.addHl r) s = addHl r s := by
  cases r <;> rfl

/-! ## Shifts and bits -/

theorem exec_shiftReg (op : ShiftOp) (r : Reg8) (s : State) : exec (.shiftReg op r) s = shiftReg op r s := by
  cases op <;> cases r <;> rfl
theorem exec_shiftMem (op : ShiftOp) (s : State) : exec (.shiftMem op) s = shiftMem op s := by
  cases op <;> rfl
theorem exec_bitReg (k : BitVec 3) (r : Reg8) (s : State) : exec (.bitReg k r) s = bitReg k.toNat r s := by
  revert k; refine forall_bitVec3 fun n => ?_; fin_cases n <;> cases r <;> rfl
theorem exec_bitMem (k : BitVec 3) (s : State) : exec (.bitMem k) s = bitMem k.toNat s := by
  revert k; refine forall_bitVec3 fun n => ?_; fin_cases n <;> rfl
theorem exec_resReg (k : BitVec 3) (r : Reg8) (s : State) : exec (.resReg k r) s = resReg k.toNat r s := by
  revert k; refine forall_bitVec3 fun n => ?_; fin_cases n <;> cases r <;> rfl
theorem exec_resMem (k : BitVec 3) (s : State) : exec (.resMem k) s = resMem k.toNat s := by
  revert k; refine forall_bitVec3 fun n => ?_; fin_cases n <;> rfl
theorem exec_setReg (k : BitVec 3) (r : Reg8) (s : State) : exec (.setReg k r) s = setReg k.toNat r s := by
  revert k; refine forall_bitVec3 fun n => ?_; fin_cases n <;> cases r <;> rfl
theorem exec_setMem (k : BitVec 3) (s : State) : exec (.setMem k) s = setMem k.toNat s := by
  revert k; refine forall_bitVec3 fun n => ?_; fin_cases n <;> rfl

/-! ## Control transfer -/

theorem exec_jpIf (nn : Word) (cc : Cond) (s : State) : exec (.jpIf nn cc) s = jumpIf cc nn 12 16 s := by
  cases cc <;> rfl
theorem exec_jrIf (e : Byte) (cc : Cond) (s : State) : exec (.jrIf e cc) s = jumpIf cc (s.relative e) 8 12 s := by
  cases cc <;> rfl
theorem exec_callIf (nn : Word) (cc : Cond) (s : State) :
    exec (.callIf nn cc) s = if s.holds cc then call nn 24 s else .next (s.tick 12) := by
  cases cc <;> rfl
theorem exec_retIf (cc : Cond) (s : State) :
    exec (.retIf cc) s = if s.holds cc then .next (s.returnToCaller.tick 20) else .next (s.tick 8) := by
  cases cc <;> rfl
theorem exec_rst (t : BitVec 3) (s : State) : exec (.rst t) s = call (BitVec.ofNat 16 (8 * t.toNat)) 16 s := by
  revert t; refine forall_bitVec3 fun n => ?_; fin_cases n <;> rfl
theorem exec_illegal {row : Byte × Instr} (h : row ∈ illegalRows) (s : State) :
    exec row.2 s = .next (s.raiseIllegalOpcode row.1) := by
  simp only [illegalRows, List.mem_cons, List.not_mem_nil, or_false] at h
  rcases h with h | h | h | h | h | h | h | h | h | h | h <;> subst h <;> rfl

end Sys2Proof.Machine
end

