-- ==== Sys2Proof/Tests/Slice0.lean ====
section
/-! SUPPORT. The model's own tests: well-formedness, every row's decoding, one-step vectors of the spec, and for every
statement with hypotheses a state that meets them. Expected results come from the spec's tables, examples and vectors
(95_test_vectors.md), never from the model. -/

namespace Sys2Proof.Tests

open Sys2Proof Sys2Proof.Machine

/-! ## Helpers -/

/-- The parameters of the spec's vectors: BATCH 24, two ROM banks, no external RAM, DAA_CARRY_RULE bit8, and an MBC_WRITE
that does nothing. -/
def vectorConfig : Config := { State.resetConfig with daaCarryRule := .bit8 }

/-- The start state of the vectors: the reset state with PC = 0x0200. -/
def base : State := { State.reset with pc := 0x0200, cfg := vectorConfig }

/-- A state with the bytes of an instruction in ROM at 0x0200. -/
def withCode (bytes : List Byte) (s : State) : State := placeBytes bytes 0x0200 s

/-- What one step from a state gives, looked at through `f`. -/
def after {α : Type} (s : State) (f : State → α) : Option α :=
  match step s with
  | .next t => some (f t)
  | .fault _ => none
  | .refused _ => none

/-- What a result holds, looked at through `f`. -/
def seen {α : Type} (r : Result) (f : State → α) : Option α :=
  match r with
  | .next t => some (f t)
  | .fault _ => none
  | .refused _ => none

/-- The fault a result is, if it is one. -/
def faultOf (r : Result) : Option Fault :=
  match r with
  | .next _ => none
  | .fault f => some f
  | .refused _ => none

/-- The refusal a result is, if it is one. -/
def refusalOf (r : Result) : Option Refusal :=
  match r with
  | .next _ => none
  | .fault _ => none
  | .refused e => some e

/-- Whether a result is a next state. -/
def completes (r : Result) : Bool := (seen r fun _ => ()).isSome

/-! ## Well-formedness and the encoding -/

/-- The row of the byte 0xCB is no instruction of its own: WellFormed refuses it, whatever its second byte. -/
theorem test_wf_refuses_prefix (op2 : Byte) : (Instr.prefix_cb op2).wf = false := rfl

theorem test_wf_accepts : (Instr.ld_a_n 0x5A).wf = true ∧ Instr.halt.wf = true ∧ Instr.illegal_d3.wf = true := by
  decide

/-- An instruction cut short is rejected by name. -/
theorem test_decode_rejects : decode [] = .error .noBytes ∧ decode [0xC3, 0x50] = .error (.truncated 0xC3) := by decide

/-- The encoder gives the table's bytes: the opcode, then the operand, low byte first (R80). -/
theorem test_encode : encode (.ld_sp_nn 0xDFFF) = [0x31, 0xFF, 0xDF] ∧ encode .rr_mhl = [0xCB, 0x1E] ∧
    encode (.jr_e 0xFB) = [0x18, 0xFB] := by decide

/-- The table numbers the two bytes of a CB row as 0xCBxx; an immediate without bits of its own is zero. -/
theorem test_decodeTableWord : decodeTableWord 8 0x06 = some (.ld_b_n 0) ∧ decodeTableWord 8 0x76 = some .halt ∧
    decodeTableWord 16 0xCB12 = some .rl_d := by decide

/-! ## Decoding: every row of the table, sixteen to a theorem, operand bytes 0x34 and 0x12 -/

theorem test_decode_00 : (List.range 16).map (fun k => decodeBytes (BitVec.ofNat 8 (0x00 + k)) 0x34 0x12) =
    [ .nop, .ld_bc_nn 0x1234, .ld_mbc_a, .inc_bc, .inc_b, .dec_b, .ld_b_n 0x34, .rlca, .ld_mnn_sp 0x1234,
      .add_hl_bc, .ld_a_mbc, .dec_bc, .inc_c, .dec_c, .ld_c_n 0x34, .rrca ] := by
  decide

theorem test_decode_10 : (List.range 16).map (fun k => decodeBytes (BitVec.ofNat 8 (0x10 + k)) 0x34 0x12) =
    [ .stop 0x34, .ld_de_nn 0x1234, .ld_mde_a, .inc_de, .inc_d, .dec_d, .ld_d_n 0x34, .rla, .jr_e 0x34, .add_hl_de,
      .ld_a_mde, .dec_de, .inc_e, .dec_e, .ld_e_n 0x34, .rra ] := by
  decide

theorem test_decode_20 : (List.range 16).map (fun k => decodeBytes (BitVec.ofNat 8 (0x20 + k)) 0x34 0x12) =
    [ .jr_nz_e 0x34, .ld_hl_nn 0x1234, .ld_mhli_a, .inc_hl, .inc_h, .dec_h, .ld_h_n 0x34, .daa, .jr_z_e 0x34,
      .add_hl_hl, .ld_a_mhli, .dec_hl, .inc_l, .dec_l, .ld_l_n 0x34, .cpl ] := by
  decide

theorem test_decode_30 : (List.range 16).map (fun k => decodeBytes (BitVec.ofNat 8 (0x30 + k)) 0x34 0x12) =
    [ .jr_nc_e 0x34, .ld_sp_nn 0x1234, .ld_mhld_a, .inc_sp, .inc_mhl, .dec_mhl, .ld_mhl_n 0x34, .scf, .jr_c_e 0x34,
      .add_hl_sp, .ld_a_mhld, .dec_sp, .inc_a, .dec_a, .ld_a_n 0x34, .ccf ] := by
  decide

theorem test_decode_40 : (List.range 16).map (fun k => decodeBytes (BitVec.ofNat 8 (0x40 + k)) 0x34 0x12) =
    [ .ld_b_b, .ld_b_c, .ld_b_d, .ld_b_e, .ld_b_h, .ld_b_l, .ld_b_mhl, .ld_b_a, .ld_c_b, .ld_c_c, .ld_c_d, .ld_c_e,
      .ld_c_h, .ld_c_l, .ld_c_mhl, .ld_c_a ] := by
  decide

theorem test_decode_50 : (List.range 16).map (fun k => decodeBytes (BitVec.ofNat 8 (0x50 + k)) 0x34 0x12) =
    [ .ld_d_b, .ld_d_c, .ld_d_d, .ld_d_e, .ld_d_h, .ld_d_l, .ld_d_mhl, .ld_d_a, .ld_e_b, .ld_e_c, .ld_e_d, .ld_e_e,
      .ld_e_h, .ld_e_l, .ld_e_mhl, .ld_e_a ] := by
  decide

theorem test_decode_60 : (List.range 16).map (fun k => decodeBytes (BitVec.ofNat 8 (0x60 + k)) 0x34 0x12) =
    [ .ld_h_b, .ld_h_c, .ld_h_d, .ld_h_e, .ld_h_h, .ld_h_l, .ld_h_mhl, .ld_h_a, .ld_l_b, .ld_l_c, .ld_l_d, .ld_l_e,
      .ld_l_h, .ld_l_l, .ld_l_mhl, .ld_l_a ] := by
  decide

theorem test_decode_70 : (List.range 16).map (fun k => decodeBytes (BitVec.ofNat 8 (0x70 + k)) 0x34 0x12) =
    [ .ld_mhl_b, .ld_mhl_c, .ld_mhl_d, .ld_mhl_e, .ld_mhl_h, .ld_mhl_l, .halt, .ld_mhl_a, .ld_a_b, .ld_a_c,
      .ld_a_d, .ld_a_e, .ld_a_h, .ld_a_l, .ld_a_mhl, .ld_a_a ] := by
  decide

theorem test_decode_80 : (List.range 16).map (fun k => decodeBytes (BitVec.ofNat 8 (0x80 + k)) 0x34 0x12) =
    [ .add_a_b, .add_a_c, .add_a_d, .add_a_e, .add_a_h, .add_a_l, .add_a_mhl, .add_a_a, .adc_a_b, .adc_a_c,
      .adc_a_d, .adc_a_e, .adc_a_h, .adc_a_l, .adc_a_mhl, .adc_a_a ] := by
  decide

theorem test_decode_90 : (List.range 16).map (fun k => decodeBytes (BitVec.ofNat 8 (0x90 + k)) 0x34 0x12) =
    [ .sub_b, .sub_c, .sub_d, .sub_e, .sub_h, .sub_l, .sub_mhl, .sub_a, .sbc_a_b, .sbc_a_c, .sbc_a_d, .sbc_a_e,
      .sbc_a_h, .sbc_a_l, .sbc_a_mhl, .sbc_a_a ] := by
  decide

theorem test_decode_A0 : (List.range 16).map (fun k => decodeBytes (BitVec.ofNat 8 (0xA0 + k)) 0x34 0x12) =
    [ .and_b, .and_c, .and_d, .and_e, .and_h, .and_l, .and_mhl, .and_a, .xor_b, .xor_c, .xor_d, .xor_e, .xor_h,
      .xor_l, .xor_mhl, .xor_a ] := by
  decide

theorem test_decode_B0 : (List.range 16).map (fun k => decodeBytes (BitVec.ofNat 8 (0xB0 + k)) 0x34 0x12) =
    [ .or_b, .or_c, .or_d, .or_e, .or_h, .or_l, .or_mhl, .or_a, .cp_b, .cp_c, .cp_d, .cp_e, .cp_h, .cp_l, .cp_mhl,
      .cp_a ] := by
  decide

theorem test_decode_C0 : (List.range 16).map (fun k => decodeBytes (BitVec.ofNat 8 (0xC0 + k)) 0x34 0x12) =
    [ .ret_nz, .pop_bc, .jp_nz_nn 0x1234, .jp_nn 0x1234, .call_nz_nn 0x1234, .push_bc, .add_a_n 0x34, .rst_00h,
      .ret_z, .ret, .jp_z_nn 0x1234, .swap_h, .call_z_nn 0x1234, .call_nn 0x1234, .adc_a_n 0x34, .rst_08h ] := by
  decide

theorem test_decode_D0 : (List.range 16).map (fun k => decodeBytes (BitVec.ofNat 8 (0xD0 + k)) 0x34 0x12) =
    [ .ret_nc, .pop_de, .jp_nc_nn 0x1234, .illegal_d3, .call_nc_nn 0x1234, .push_de, .sub_n 0x34, .rst_10h, .ret_c,
      .reti, .jp_c_nn 0x1234, .illegal_db, .call_c_nn 0x1234, .illegal_dd, .sbc_a_n 0x34, .rst_18h ] := by
  decide

theorem test_decode_E0 : (List.range 16).map (fun k => decodeBytes (BitVec.ofNat 8 (0xE0 + k)) 0x34 0x12) =
    [ .ldh_mn_a 0x34, .pop_hl, .ld_mc_a, .illegal_e3, .illegal_e4, .push_hl, .and_n 0x34, .rst_20h, .add_sp_e 0x34,
      .jp_hl, .ld_mnn_a 0x1234, .illegal_eb, .illegal_ec, .illegal_ed, .xor_n 0x34, .rst_28h ] := by
  decide

theorem test_decode_F0 : (List.range 16).map (fun k => decodeBytes (BitVec.ofNat 8 (0xF0 + k)) 0x34 0x12) =
    [ .ldh_a_mn 0x34, .pop_af, .ld_a_mc, .di, .illegal_f4, .push_af, .or_n 0x34, .rst_30h, .ld_hl_spe 0x34,
      .ld_sp_hl, .ld_a_mnn 0x1234, .ei, .illegal_fc, .illegal_fd, .cp_n 0x34, .rst_38h ] := by
  decide

theorem test_decode_cb_00 : (List.range 16).map (fun k => decodeBytes 0xCB (BitVec.ofNat 8 (0x00 + k)) 0x12) =
    [ .rlc_b, .rlc_c, .rlc_d, .rlc_e, .rlc_h, .rlc_l, .rlc_mhl, .rlc_a, .rrc_b, .rrc_c, .rrc_d, .rrc_e, .rrc_h,
      .rrc_l, .rrc_mhl, .rrc_a ] := by
  decide

theorem test_decode_cb_10 : (List.range 16).map (fun k => decodeBytes 0xCB (BitVec.ofNat 8 (0x10 + k)) 0x12) =
    [ .rl_b, .rl_c, .rl_d, .rl_e, .rl_h, .rl_l, .rl_mhl, .rl_a, .rr_b, .rr_c, .rr_d, .rr_e, .rr_h, .rr_l, .rr_mhl,
      .rr_a ] := by
  decide

theorem test_decode_cb_20 : (List.range 16).map (fun k => decodeBytes 0xCB (BitVec.ofNat 8 (0x20 + k)) 0x12) =
    [ .sla_b, .sla_c, .sla_d, .sla_e, .sla_h, .sla_l, .sla_mhl, .sla_a, .sra_b, .sra_c, .sra_d, .sra_e, .sra_h,
      .sra_l, .sra_mhl, .sra_a ] := by
  decide

theorem test_decode_cb_30 : (List.range 16).map (fun k => decodeBytes 0xCB (BitVec.ofNat 8 (0x30 + k)) 0x12) =
    [ .swap_b, .swap_c, .swap_d, .swap_e, .swap_h, .swap_l, .swap_mhl, .swap_a, .srl_b, .srl_c, .srl_d, .srl_e,
      .srl_h, .srl_l, .srl_mhl, .srl_a ] := by
  decide

theorem test_decode_cb_40 : (List.range 16).map (fun k => decodeBytes 0xCB (BitVec.ofNat 8 (0x40 + k)) 0x12) =
    [ .bit_0_b, .bit_0_c, .bit_0_d, .bit_0_e, .bit_0_h, .bit_0_l, .bit_0_mhl, .bit_0_a, .bit_1_b, .bit_1_c,
      .bit_1_d, .bit_1_e, .bit_1_h, .bit_1_l, .bit_1_mhl, .bit_1_a ] := by
  decide

theorem test_decode_cb_50 : (List.range 16).map (fun k => decodeBytes 0xCB (BitVec.ofNat 8 (0x50 + k)) 0x12) =
    [ .bit_2_b, .bit_2_c, .bit_2_d, .bit_2_e, .bit_2_h, .bit_2_l, .bit_2_mhl, .bit_2_a, .bit_3_b, .bit_3_c,
      .bit_3_d, .bit_3_e, .bit_3_h, .bit_3_l, .bit_3_mhl, .bit_3_a ] := by
  decide

theorem test_decode_cb_60 : (List.range 16).map (fun k => decodeBytes 0xCB (BitVec.ofNat 8 (0x60 + k)) 0x12) =
    [ .bit_4_b, .bit_4_c, .bit_4_d, .bit_4_e, .bit_4_h, .bit_4_l, .bit_4_mhl, .bit_4_a, .bit_5_b, .bit_5_c,
      .bit_5_d, .bit_5_e, .bit_5_h, .bit_5_l, .bit_5_mhl, .bit_5_a ] := by
  decide

theorem test_decode_cb_70 : (List.range 16).map (fun k => decodeBytes 0xCB (BitVec.ofNat 8 (0x70 + k)) 0x12) =
    [ .bit_6_b, .bit_6_c, .bit_6_d, .bit_6_e, .bit_6_h, .bit_6_l, .bit_6_mhl, .bit_6_a, .bit_7_b, .bit_7_c,
      .bit_7_d, .bit_7_e, .bit_7_h, .bit_7_l, .bit_7_mhl, .bit_7_a ] := by
  decide

theorem test_decode_cb_80 : (List.range 16).map (fun k => decodeBytes 0xCB (BitVec.ofNat 8 (0x80 + k)) 0x12) =
    [ .res_0_b, .res_0_c, .res_0_d, .res_0_e, .res_0_h, .res_0_l, .res_0_mhl, .res_0_a, .res_1_b, .res_1_c,
      .res_1_d, .res_1_e, .res_1_h, .res_1_l, .res_1_mhl, .res_1_a ] := by
  decide

theorem test_decode_cb_90 : (List.range 16).map (fun k => decodeBytes 0xCB (BitVec.ofNat 8 (0x90 + k)) 0x12) =
    [ .res_2_b, .res_2_c, .res_2_d, .res_2_e, .res_2_h, .res_2_l, .res_2_mhl, .res_2_a, .res_3_b, .res_3_c,
      .res_3_d, .res_3_e, .res_3_h, .res_3_l, .res_3_mhl, .res_3_a ] := by
  decide

theorem test_decode_cb_A0 : (List.range 16).map (fun k => decodeBytes 0xCB (BitVec.ofNat 8 (0xA0 + k)) 0x12) =
    [ .res_4_b, .res_4_c, .res_4_d, .res_4_e, .res_4_h, .res_4_l, .res_4_mhl, .res_4_a, .res_5_b, .res_5_c,
      .res_5_d, .res_5_e, .res_5_h, .res_5_l, .res_5_mhl, .res_5_a ] := by
  decide

theorem test_decode_cb_B0 : (List.range 16).map (fun k => decodeBytes 0xCB (BitVec.ofNat 8 (0xB0 + k)) 0x12) =
    [ .res_6_b, .res_6_c, .res_6_d, .res_6_e, .res_6_h, .res_6_l, .res_6_mhl, .res_6_a, .res_7_b, .res_7_c,
      .res_7_d, .res_7_e, .res_7_h, .res_7_l, .res_7_mhl, .res_7_a ] := by
  decide

theorem test_decode_cb_C0 : (List.range 16).map (fun k => decodeBytes 0xCB (BitVec.ofNat 8 (0xC0 + k)) 0x12) =
    [ .set_0_b, .set_0_c, .set_0_d, .set_0_e, .set_0_h, .set_0_l, .set_0_mhl, .set_0_a, .set_1_b, .set_1_c,
      .set_1_d, .set_1_e, .set_1_h, .set_1_l, .set_1_mhl, .set_1_a ] := by
  decide

theorem test_decode_cb_D0 : (List.range 16).map (fun k => decodeBytes 0xCB (BitVec.ofNat 8 (0xD0 + k)) 0x12) =
    [ .set_2_b, .set_2_c, .set_2_d, .set_2_e, .set_2_h, .set_2_l, .set_2_mhl, .set_2_a, .set_3_b, .set_3_c,
      .set_3_d, .set_3_e, .set_3_h, .set_3_l, .set_3_mhl, .set_3_a ] := by
  decide

theorem test_decode_cb_E0 : (List.range 16).map (fun k => decodeBytes 0xCB (BitVec.ofNat 8 (0xE0 + k)) 0x12) =
    [ .set_4_b, .set_4_c, .set_4_d, .set_4_e, .set_4_h, .set_4_l, .set_4_mhl, .set_4_a, .set_5_b, .set_5_c,
      .set_5_d, .set_5_e, .set_5_h, .set_5_l, .set_5_mhl, .set_5_a ] := by
  decide

theorem test_decode_cb_F0 : (List.range 16).map (fun k => decodeBytes 0xCB (BitVec.ofNat 8 (0xF0 + k)) 0x12) =
    [ .set_6_b, .set_6_c, .set_6_d, .set_6_e, .set_6_h, .set_6_l, .set_6_mhl, .set_6_a, .set_7_b, .set_7_c,
      .set_7_d, .set_7_e, .set_7_h, .set_7_l, .set_7_mhl, .set_7_a ] := by
  decide

/-! ## One step: the vectors of the spec (95_test_vectors.md, sections 1 and 3) -/

/-- V1 (R105). -/
theorem test_V1_ld_a_mhli :
    after (withCode [0x2A] (placeBytes [0x1F] 0xFFFF { base with h := 0xFF, l := 0xFF }))
      (fun t => (t.a, t.hl)) = some (0x1F, 0x0000) := by
  decide

/-- V2 (R108). -/
theorem test_V2_ld_mhld_a :
    after (withCode [0x32] { base with h := 0x00, l := 0x00, a := 0x77 })
      (fun t => (t.hl, t.rawRead 0x0000)) = some (0xFFFF, 0x00) := by
  decide

/-- V3 (R110). -/
theorem test_V3_ld_mnn_sp :
    after (withCode [0x08, 0xFF, 0xDF] { base with sp := 0xABCD })
      (fun t => (t.rawRead 0xDFFF, t.rawRead 0xE000, t.clocks)) = some (0xCD, 0xAB, 20) := by
  decide

/-- V4 (R113). -/
theorem test_V4_pop_af :
    after (withCode [0xF1] (placeBytes [0xFF, 0x12] 0xC000 { base with sp := 0xC000 }))
      (fun t => (t.a, t.f, t.sp)) = some (0x12, 0xF0, 0xC002) := by
  decide

/-- V5 (R112). -/
theorem test_V5_push_bc :
    after (withCode [0xC5] { base with sp := 0x0001, b := 0xAB, c := 0xCD })
      (fun t => (t.sp, t.rawRead 0x0000, t.rawRead 0xFFFF)) = some (0xFFFF, 0x00, 0xCD) := by
  decide

/-- V6 (R92). -/
theorem test_V6_ld_b_b :
    after (withCode [0x40] { base with b := 0x12, f := 0xF0 })
      (fun t => (t.b, t.f, t.pc, t.clocks)) = some (0x12, 0xF0, 0x0201, 4) := by
  decide

/-- V7 (R123). -/
theorem test_V7_add_a_a :
    after (withCode [0x87] { base with a := 0x80, f := 0x00 })
      (fun t => (t.a, t.f)) = some (0x00, 0x90) := by
  decide

/-- V8 (R125). -/
theorem test_V8_add_a_n :
    after (withCode [0xC6, 0xFF] { base with a := 0x01, f := 0x00 })
      (fun t => (t.a, t.f)) = some (0x00, 0xB0) := by
  decide

/-- V9 (R125). -/
theorem test_V9_add_a_n :
    after (withCode [0xC6, 0x00] { base with a := 0x00, f := 0xF0 })
      (fun t => (t.a, t.f)) = some (0x00, 0x80) := by
  decide

/-- V10 (R128). -/
theorem test_V10_adc_a_n :
    after (withCode [0xCE, 0x00] { base with a := 0xFF, f := 0x10 })
      (fun t => (t.a, t.f)) = some (0x00, 0xB0) := by
  decide

/-- V11 (R128). -/
theorem test_V11_adc_a_n :
    after (withCode [0xCE, 0x0F] { base with a := 0x00, f := 0x10 })
      (fun t => (t.a, t.f)) = some (0x10, 0x20) := by
  decide

/-- V12 (R126). -/
theorem test_V12_adc_a_a :
    after (withCode [0x8F] { base with a := 0x88, f := 0x10 })
      (fun t => (t.a, t.f)) = some (0x11, 0x30) := by
  decide

/-- V13 (R131). -/
theorem test_V13_sub_n :
    after (withCode [0xD6, 0x01] { base with a := 0x00, f := 0x00 })
      (fun t => (t.a, t.f)) = some (0xFF, 0x70) := by
  decide

/-- V14 (R129). -/
theorem test_V14_sub_a :
    after (withCode [0x97] { base with a := 0x42, f := 0x30 })
      (fun t => (t.a, t.f)) = some (0x00, 0xC0) := by
  decide

/-- V15 (R131). -/
theorem test_V15_sub_n :
    after (withCode [0xD6, 0x10] { base with a := 0x08, f := 0x00 })
      (fun t => (t.a, t.f)) = some (0xF8, 0x50) := by
  decide

/-- V16 (R134). -/
theorem test_V16_sbc_a_n :
    after (withCode [0xDE, 0x00] { base with a := 0x00, f := 0x10 })
      (fun t => (t.a, t.f)) = some (0xFF, 0x70) := by
  decide

/-- V17 (R134). -/
theorem test_V17_sbc_a_n :
    after (withCode [0xDE, 0xFF] { base with a := 0xFF, f := 0x10 })
      (fun t => (t.a, t.f)) = some (0xFF, 0x70) := by
  decide

/-- V18 (R132). -/
theorem test_V18_sbc_a_a :
    after (withCode [0x9F] { base with a := 0x55, f := 0x10 })
      (fun t => (t.a, t.f)) = some (0xFF, 0x70) := by
  decide

/-- V19 (R137). -/
theorem test_V19_and_n :
    after (withCode [0xE6, 0x00] { base with a := 0xFF, f := 0x10 })
      (fun t => (t.a, t.f)) = some (0x00, 0xA0) := by
  decide

/-- V20 (R140). -/
theorem test_V20_xor_n :
    after (withCode [0xEE, 0x5A] { base with a := 0x5A, f := 0xF0 })
      (fun t => (t.a, t.f)) = some (0x00, 0x80) := by
  decide

/-- V21 (R143). -/
theorem test_V21_or_n :
    after (withCode [0xF6, 0x00] { base with a := 0x00, f := 0x70 })
      (fun t => (t.a, t.f)) = some (0x00, 0x80) := by
  decide

/-- V22 (R146). -/
theorem test_V22_cp_n :
    after (withCode [0xFE, 0x01] { base with a := 0x00, f := 0x00 })
      (fun t => (t.a, t.f)) = some (0x00, 0x70) := by
  decide

/-- V23 (R146). -/
theorem test_V23_cp_n :
    after (withCode [0xFE, 0x10] { base with a := 0x1F, f := 0x00 })
      (fun t => (t.a, t.f)) = some (0x1F, 0x40) := by
  decide

/-- V24 (R145). -/
theorem test_V24_cp_mhl :
    after (withCode [0xBE] (placeBytes [0x41] 0xC000 { base with a := 0x40, h := 0xC0, l := 0x00, f := 0x00 }))
      (fun t => (t.a, t.f)) = some (0x40, 0x70) := by
  decide

/-- V25 (R147). -/
theorem test_V25_inc_a :
    after (withCode [0x3C] { base with a := 0xFF, f := 0x10 })
      (fun t => (t.a, t.f)) = some (0x00, 0xB0) := by
  decide

/-- V26 (R147). -/
theorem test_V26_inc_b :
    after (withCode [0x04] { base with b := 0x0F, f := 0x40 })
      (fun t => (t.b, t.f)) = some (0x10, 0x20) := by
  decide

/-- V27 (R149). -/
theorem test_V27_dec_b :
    after (withCode [0x05] { base with b := 0x00, f := 0x00 })
      (fun t => (t.b, t.f)) = some (0xFF, 0x60) := by
  decide

/-- V28 (R149). -/
theorem test_V28_dec_c :
    after (withCode [0x0D] { base with c := 0x10, f := 0x10 })
      (fun t => (t.c, t.f)) = some (0x0F, 0x70) := by
  decide

/-- V29 (R148). -/
theorem test_V29_inc_mhl :
    after (withCode [0x34] (placeBytes [0xFF] 0xC000 { base with h := 0xC0, l := 0x00, f := 0x00 }))
      (fun t => (t.rawRead 0xC000, t.f, t.clocks)) = some (0x00, 0xA0, 12) := by
  decide

/-- V30 (R150). -/
theorem test_V30_dec_mhl :
    after (withCode [0x35] (placeBytes [0x01] 0xC000 { base with h := 0xC0, l := 0x00, f := 0x10 }))
      (fun t => (t.rawRead 0xC000, t.f, t.clocks)) = some (0x00, 0xD0, 12) := by
  decide

/-- V31 (R151). -/
theorem test_V31_daa :
    after (withCode [0x27] { base with a := 0x9A, f := 0x00 })
      (fun t => (t.a, t.f)) = some (0x00, 0x90) := by
  decide

/-- V37 (R151). -/
theorem test_V37_daa :
    after (withCode [0x27] { base with a := 0x80, f := 0x10, cfg := { vectorConfig with daaCarryRule := .sticky } })
      (fun t => (t.a, t.f)) = some (0xE0, 0x10) := by
  decide

/-- V45 (R152). -/
theorem test_V45_cpl :
    after (withCode [0x2F] { base with a := 0x00, f := 0x90 })
      (fun t => (t.a, t.f)) = some (0xFF, 0xF0) := by
  decide

/-- V46 (R154). -/
theorem test_V46_ccf :
    after (withCode [0x3F] { base with f := 0x70 }) (fun t => (t.a, t.f)) = some (0x01, 0x00) := by
  decide

/-- V47 (R153). -/
theorem test_V47_scf :
    after (withCode [0x37] { base with f := 0x60 }) (fun t => (t.a, t.f)) = some (0x01, 0x10) := by
  decide

/-- V48 (R155); H is left free, as ADD16_HALF_CARRY is. -/
theorem test_V48_add_hl_bc :
    after (withCode [0x09] { base with h := 0x0F, l := 0xFF, b := 0x00, c := 0x01, f := 0x80 })
      (fun t => t.hl) = some 0x1000 := by
  decide

/-- V49 (R155); H is left free, as ADD16_HALF_CARRY is. -/
theorem test_V49_add_hl_hl :
    after (withCode [0x29] { base with h := 0x80, l := 0x00, f := 0x00 }) (fun t => t.hl) = some 0x0000 := by
  decide

/-- V50 (R155); H is left free, as ADD16_HALF_CARRY is. -/
theorem test_V50_add_hl_sp :
    after (withCode [0x39] { base with h := 0xFF, l := 0xFF, sp := 0x0001, f := 0x00 })
      (fun t => t.hl) = some 0x0000 := by
  decide

/-- V51 (R156). -/
theorem test_V51_inc_sp :
    after (withCode [0x33] { base with sp := 0xFFFF, f := 0xF0 })
      (fun t => (t.sp, t.f)) = some (0x0000, 0xF0) := by
  decide

/-- V52 (R157). -/
theorem test_V52_dec_bc :
    after (withCode [0x0B] { base with b := 0x00, c := 0x00, f := 0x00 })
      (fun t => (t.bc, t.f)) = some (0xFFFF, 0x00) := by
  decide

/-- V53 (R158). -/
theorem test_V53_add_sp_e :
    after (withCode [0xE8, 0xFF] { base with sp := 0x0001, f := 0xF0 })
      (fun t => (t.sp, t.f, t.clocks)) = some (0x0000, 0x30, 16) := by
  decide

/-- V54 (R158). -/
theorem test_V54_add_sp_e :
    after (withCode [0xE8, 0x80] { base with sp := 0x1000, f := 0x00 })
      (fun t => (t.sp, t.f)) = some (0x0F80, 0x00) := by
  decide

/-- V55 (R159). -/
theorem test_V55_ld_hl_spe :
    after (withCode [0xF8, 0x0F] { base with sp := 0xFFF1, f := 0x80 })
      (fun t => (t.hl, t.sp, t.f, t.clocks)) = some (0x0000, 0xFFF1, 0x30, 12) := by
  decide

/-- V56 (R159). -/
theorem test_V56_ld_hl_spe :
    after (withCode [0xF8, 0xFE] { base with sp := 0x0000, f := 0x00 })
      (fun t => (t.hl, t.f)) = some (0xFFFE, 0x00) := by
  decide

/-- V57 (R160). -/
theorem test_V57_rlca :
    after (withCode [0x07] { base with a := 0x00, f := 0x90 })
      (fun t => (t.a, t.f)) = some (0x00, 0x00) := by
  decide

/-- V58 (R162). -/
theorem test_V58_rla :
    after (withCode [0x17] { base with a := 0x80, f := 0x00 })
      (fun t => (t.a, t.f)) = some (0x00, 0x10) := by
  decide

/-- V59 (R161). -/
theorem test_V59_rrca :
    after (withCode [0x0F] { base with a := 0x01, f := 0x00 })
      (fun t => (t.a, t.f)) = some (0x80, 0x10) := by
  decide

/-- V60 (R163). -/
theorem test_V60_rra :
    after (withCode [0x1F] { base with a := 0x01, f := 0x10 })
      (fun t => (t.a, t.f)) = some (0x80, 0x10) := by
  decide

/-- V61 (R165). -/
theorem test_V61_rlc_a :
    after (withCode [0xCB, 0x07] { base with a := 0x00, f := 0x10 })
      (fun t => (t.a, t.f)) = some (0x00, 0x80) := by
  decide

/-- V62 (R169). -/
theorem test_V62_rl_c :
    after (withCode [0xCB, 0x11] { base with c := 0x80, f := 0x00 })
      (fun t => (t.c, t.f)) = some (0x00, 0x90) := by
  decide

/-- V63 (R171). -/
theorem test_V63_rr_c :
    after (withCode [0xCB, 0x19] { base with c := 0x01, f := 0x10 })
      (fun t => (t.c, t.f)) = some (0x80, 0x10) := by
  decide

/-- V64 (R175). -/
theorem test_V64_sra_a :
    after (withCode [0xCB, 0x2F] { base with a := 0x01, f := 0x00 })
      (fun t => (t.a, t.f)) = some (0x00, 0x90) := by
  decide

/-- V65 (R173). -/
theorem test_V65_sla_a :
    after (withCode [0xCB, 0x27] { base with a := 0xFF, f := 0x00 })
      (fun t => (t.a, t.f)) = some (0xFE, 0x10) := by
  decide

/-- V66 (R177). -/
theorem test_V66_swap_a :
    after (withCode [0xCB, 0x37] { base with a := 0x00, f := 0x10 })
      (fun t => (t.a, t.f)) = some (0x00, 0x80) := by
  decide

/-- V67 (R179). -/
theorem test_V67_srl_a :
    after (withCode [0xCB, 0x3F] { base with a := 0x80, f := 0x10 })
      (fun t => (t.a, t.f)) = some (0x40, 0x00) := by
  decide

/-- V68 (R166). -/
theorem test_V68_rlc_mhl :
    after (withCode [0xCB, 0x06] (placeBytes [0x80] 0xC000 { base with h := 0xC0, l := 0x00, f := 0x00 }))
      (fun t => (t.rawRead 0xC000, t.f, t.clocks)) = some (0x01, 0x10, 16) := by
  decide

/-- V69 (R181). -/
theorem test_V69_bit_0_b :
    after (withCode [0xCB, 0x40] { base with b := 0x01, f := 0x50 }) (fun t => t.f) = some 0x30 := by
  decide

/-- V70 (R182). -/
theorem test_V70_bit_7_mhl :
    after (withCode [0xCB, 0x7E] (placeBytes [0x7F] 0xC000 { base with h := 0xC0, l := 0x00, f := 0x00 }))
      (fun t => (t.f, t.clocks)) = some (0xA0, 12) := by
  decide

/-- V71 (R184). -/
theorem test_V71_res_0_mhl :
    after (withCode [0xCB, 0x86] (placeBytes [0xFF] 0xC000 { base with h := 0xC0, l := 0x00, f := 0xF0 }))
      (fun t => (t.rawRead 0xC000, t.f, t.clocks)) = some (0xFE, 0xF0, 16) := by
  decide

/-- V72 (R185). -/
theorem test_V72_set_7_a :
    after (withCode [0xCB, 0xFF] { base with a := 0x00, f := 0x00 })
      (fun t => (t.a, t.f)) = some (0x80, 0x00) := by
  decide

/-- V73 (R191). -/
theorem test_V73_jr_nz_e :
    after (withCode [0x20, 0x05] { base with f := 0x80 })
      (fun t => (t.pc, t.sp, t.clocks)) = some (0x0202, 0xFFFE, 8) := by
  decide

/-- V74 (R191). -/
theorem test_V74_jr_nz_e :
    after (withCode [0x20, 0x05] { base with f := 0x00 })
      (fun t => (t.pc, t.sp, t.clocks)) = some (0x0207, 0xFFFE, 12) := by
  decide

/-- V75 (R190). -/
theorem test_V75_jr_e :
    after (withCode [0x18, 0xFE] base) (fun t => (t.pc, t.sp, t.clocks)) = some (0x0200, 0xFFFE, 12) := by
  decide

/-- V76 (R190). -/
theorem test_V76_jr_e :
    after (withCode [0x18, 0x7F] base) (fun t => (t.pc, t.sp, t.clocks)) = some (0x0281, 0xFFFE, 12) := by
  decide

/-- V77 (R188). -/
theorem test_V77_jp_c_nn :
    after (withCode [0xDA, 0x00, 0x40] { base with f := 0x10 })
      (fun t => (t.pc, t.sp, t.clocks)) = some (0x4000, 0xFFFE, 16) := by
  decide

/-- V78 (R192). -/
theorem test_V78_call_nn :
    after (withCode [0xCD, 0x00, 0x03] { base with sp := 0x0000 })
      (fun t => (t.pc, t.sp, t.rawRead 0xFFFE, t.rawRead 0xFFFF)) = some (0x0300, 0xFFFE, 0x03, 0x02) := by
  decide

/-- V79 (R195). -/
theorem test_V79_ret_nc :
    after (withCode [0xD0] { base with f := 0x10, sp := 0xC000 })
      (fun t => (t.pc, t.sp, t.clocks)) = some (0x0201, 0xC000, 8) := by
  decide

/-- V80 (R195). -/
theorem test_V80_ret_nc :
    after (withCode [0xD0] (placeBytes [0x34, 0x12] 0xC000 { base with f := 0x00, sp := 0xC000 }))
      (fun t => (t.pc, t.sp, t.clocks)) = some (0x1234, 0xC002, 20) := by
  decide

/-- V81 (R197). -/
theorem test_V81_rst_38h :
    after (withCode [0xFF] { base with sp := 0xFFFE })
      (fun t => (t.pc, t.sp, t.rawRead 0xFFFD, t.rawRead 0xFFFC, t.clocks)) = some (0x0038, 0xFFFC, 0x02, 0x01, 16) := by
  decide
/-! ## One step: instructions the vectors do not reach, by the examples of their rules -/

/-- R93, R94, R95, R96 (examples). -/
theorem test_byte_loads :
    after (withCode [0x3E, 0x5A] base) (fun t => (t.a, t.pc, t.clocks)) = some (0x5A, 0x0202, 8) ∧
    after (withCode [0x46] (placeBytes [0x99] 0xC000 { base with h := 0xC0, l := 0x00 })) (fun t => t.b) = some 0x99 ∧
    after (withCode [0x74] { base with h := 0xC0, l := 0x10 }) (fun t => t.rawRead 0xC010) = some 0xC0 ∧
    after (withCode [0x36, 0x01] { base with h := 0xD0, l := 0x00 }) (fun t => (t.rawRead 0xD000, t.clocks)) =
      some (0x01, 12) := by decide

/-- R97 to R100 (examples). -/
theorem test_pair_and_absolute_forms :
    after (withCode [0x1A] (placeBytes [0x3C] 0x8000 { base with d := 0x80, e := 0x00 })) (fun t => t.a) = some 0x3C ∧
    after (withCode [0x02] { base with b := 0xC1, c := 0x00 }) (fun t => t.rawRead 0xC100) = some 0x01 ∧
    after (withCode [0xFA, 0x00, 0xE0] (placeBytes [0x42] 0xC000 base)) (fun t => (t.a, t.clocks)) = some (0x42, 16) ∧
    after (withCode [0xEA, 0x00, 0xC0] { base with a := 0x99 }) (fun t => (t.rawRead 0xC000, t.rawRead 0xE000)) =
      some (0x99, 0x99) := by decide

/-- R101 to R104 (examples). -/
theorem test_high_page_forms :
    after (withCode [0xF0, 0x44] (base.setIo 0x44 0x90)) (fun t => t.a) = some 0x90 ∧
    after (withCode [0xE0, 0xFF] base) (fun t => (t.ie, t.clocks)) = some (0x01, 12) ∧
    after (withCode [0xF2] ({ base with c := 0x45 }.setIo 0x45 0x10)) (fun t => t.a) = some 0x10 ∧
    after (withCode [0xE2] { base with c := 0x80, a := 0x55 }) (fun t => (t.rawRead 0xFF80, t.clocks)) =
      some (0x55, 8) := by decide

/-- R106, R107 (examples). -/
theorem test_moving_forms :
    after (withCode [0x3A] (placeBytes [0x22] 0xC001 { base with h := 0xC0, l := 0x01 })) (fun t => (t.a, t.hl)) =
      some (0x22, 0xC000) ∧
    after (withCode [0x22] { base with h := 0xC0, l := 0xFF }) (fun t => (t.rawRead 0xC0FF, t.hl)) =
      some (0x01, 0xC100) := by decide

/-- R109, R111, R112 (examples). -/
theorem test_word_forms :
    after (withCode [0x31, 0xFF, 0xDF] base) (fun t => (t.sp, t.clocks)) = some (0xDFFF, 12) ∧
    after (withCode [0xF9] { base with h := 0xC8, l := 0x00 }) (fun t => t.sp) = some 0xC800 ∧
    after (withCode [0xC5] { base with b := 0x12, c := 0x34 })
      (fun t => (t.sp, t.rawRead 0xFFFD, t.rawRead 0xFFFC)) = some (0xFFFC, 0x12, 0x34) := by decide

/-- R124, R132, R135, R142 (examples). -/
theorem test_alu_examples :
    after (withCode [0x86] (placeBytes [0x12] 0xC000 { base with a := 0x3C, h := 0xC0, l := 0x00 }))
      (fun t => (t.a, t.f)) = some (0x4E, 0x00) ∧
    after (withCode [0x9C] { base with a := 0x3B, h := 0x2A, f := 0x10 }) (fun t => (t.a, t.f)) = some (0x10, 0x40) ∧
    after (withCode [0xA5] { base with a := 0x5A, l := 0x3F }) (fun t => (t.a, t.f)) = some (0x1A, 0x20) ∧
    after (withCode [0xB6] (placeBytes [0x0F] 0xC000 { base with a := 0x5A, h := 0xC0, l := 0x00 }))
      (fun t => (t.a, t.f)) = some (0x5F, 0x00) := by decide

/-- R148: `INC (HL)` with HL = 0xFF05 goes through the TIMA write handler. -/
theorem test_inc_tima :
    after (withCode [0x34] ({ base with h := 0xFF, l := 0x05 }.setIo 0x05 0x7F)) (fun t => (t.tima, t.f)) =
      some (0x80, 0x30) := by decide

/-- R176, R180, R186 (examples). -/
theorem test_cb_memory_forms :
    after (withCode [0xCB, 0x2E] (placeBytes [0x8A] 0xC000 { base with h := 0xC0, l := 0x00 }))
      (fun t => (t.rawRead 0xC000, t.f, t.clocks)) = some (0xC5, 0x00, 16) ∧
    after (withCode [0xCB, 0x3E] (placeBytes [0x01] 0xC000 { base with h := 0xC0, l := 0x00 }))
      (fun t => (t.rawRead 0xC000, t.f)) = some (0x00, 0x90) ∧
    after (withCode [0xCB, 0xDE] { base with h := 0xC0, l := 0x00 }) (fun t => t.rawRead 0xC000) = some 0x08 := by
  decide

/-- R187, R189, R193, R194, R196 (examples). -/
theorem test_transfers :
    after (withCode [0xC3, 0x50, 0x01] base) (fun t => (t.pc, t.clocks)) = some (0x0150, 16) ∧
    after (withCode [0xE9] { base with h := 0x40, l := 0x00 }) (fun t => (t.pc, t.clocks)) = some (0x4000, 4) ∧
    after (withCode [0xDC, 0x34, 0x12] { base with f := 0x00 }) (fun t => (t.pc, t.sp, t.clocks)) =
      some (0x0203, 0xFFFE, 12) ∧
    after (withCode [0xC9] (placeBytes [0x53, 0x01] 0xFFFC { base with sp := 0xFFFC })) (fun t => (t.pc, t.sp)) =
      some (0x0153, 0xFFFE) ∧
    after (withCode [0xD9] (placeBytes [0x53, 0x01] 0xFFFC { base with sp := 0xFFFC }))
      (fun t => (t.pc, t.ime, t.clocks)) = some (0x0153, true, 16) := by decide

/-- R194: SP = 0xFFFF pops the low byte from IE and the high byte from ROM byte 0. -/
theorem test_ret_wraps :
    after (withCode [0xC9] (placeBytes [0x12] 0x0000 (placeBytes [0x34] 0xFFFF { base with sp := 0xFFFF })))
      (fun t => (t.pc, t.sp)) = some (0x1234, 0x0001) := by decide

/-- R198, R201, R202 (examples), R200 (example): the second byte of STOP is ignored. -/
theorem test_system_forms :
    after (withCode [0x00] base) (fun t => (t.pc, t.clocks, t.af)) = some (0x0201, 4, 0x01B0) ∧
    after (withCode [0xF3] { base with ime := true }) (fun t => t.ime) = some false ∧
    after (withCode [0xFB] base) (fun t => (t.ime, t.slot)) = some (true, 1) ∧
    after (withCode [0x10, 0x77] base) (fun t => (t.stopped, t.pc, t.clocks)) = some (true, 0x0202, 4) := by decide

/-- H1, H2 (R199): HALT with IME = 0 sets the halt bug, and wakes at its own iteration if an interrupt is pending. -/
theorem test_halt :
    after (withCode [0x76] base) (fun t => (t.halted, t.haltBug, t.pc, t.slot)) = some (true, true, 0x0201, 0) ∧
    after (withCode [0x76, 0x3C] ((base.setIo 0xFF 1).setIo 0x0F 1)) (fun t => (t.halted, t.haltBug)) =
      some (false, true) := by decide

/-- H3 (R199, R81): with the halt bug a two-byte instruction reads its own opcode as its immediate. -/
theorem test_halt_bug :
    after (withCode [0x3E, 0x14] { base with haltBug := true }) (fun t => (t.a, t.pc, t.haltBug)) =
      some (0x3E, 0x0201, false) ∧
    after (withCode [0x3C] { base with haltBug := true, a := 0x00 }) (fun t => (t.a, t.pc)) = some (0x01, 0x0200) := by
  decide

/-- H4 (R200, R241): a stopped CPU advances time only, until an input refresh reports a key. -/
theorem test_stop_wakes :
    after { base with stopped := true, keysIn := [0x00] } (fun t => (t.stopped, t.pc, t.clocks)) =
      some (true, 0x0200, 80) ∧
    after (withCode [0x3C] { base with stopped := true, keysIn := [0x01] }) (fun t => (t.stopped, t.a)) =
      some (false, 0x02) := by decide

/-- H5 (R203): the fault is recorded, and no later step runs. -/
theorem test_illegal :
    after (withCode [0xD3] base) (fun t => (t.fault, t.pc, t.clocks)) = some (some ⟨0x0200, 0xD3⟩, 0x0201, 0) ∧
    faultOf (step { base with fault := some ⟨0x0200, 0xD3⟩ }) = some (.illegalOpcode 0x0200 0xD3) := by decide

/-- H6 (R203, R81): an undefined byte after HALT faults with PC at its own address. -/
theorem test_illegal_after_halt :
    after (withCode [0xDD] { base with haltBug := true }) (fun t => (t.fault, t.pc, t.haltBug)) =
      some (some ⟨0x0200, 0xDD⟩, 0x0200, false) := by decide

/-- The first step after reset runs the instruction that `withFetchWord` places. -/
theorem test_withFetchWord :
    after (State.reset.withFetchWord 8 0x3C) (fun t => (t.a, t.pc)) = some (0x02, 0x0101) ∧
    after (State.reset.withFetchWord 16 0xCB12) (fun t => (t.d, t.pc)) = some (0x01, 0x0102) := by decide

/-! ## The bus, the timer, the PPU and interrupts: the system vectors (95_test_vectors.md, section 4) -/

/-- B1 to B5. -/
theorem test_bus :
    seen (base.store 0xE123 0x5A) (fun t => t.loadByte 0xC123) = some 0x5A ∧
    seen (base.store 0xA000 0x01) (fun t => t.loadByte 0xA000) = some 0xFF ∧
    seen (base.store 0x2000 0x05) (fun t => (t.loadByte 0x2000, t.romBank)) = some (0x00, 1) ∧
    seen (base.store 0xFF41 0xFF) (fun t => t.loadByte 0xFF41) = some 0xFE ∧
    seen (base.store 0xFF44 0x55) (fun t => t.loadByte 0xFF44) = some 0x00 := by decide

/-- B6, with two bytes of the page. -/
theorem test_dma :
    seen (State.store (placeBytes [0x11] 0xC09F (placeBytes [0x22] 0xC000 base)) 0xFF46 0xC0)
      (fun t => (t.rawRead 0xFE00, t.rawRead 0xFE01, t.rawRead 0xFE9F, t.rawRead 0xFF46)) =
      some (0x22, 0x00, 0x11, 0xC0) := by decide +kernel

/-- B7 to B10, S15. -/
theorem test_joypad :
    State.loadByte ({ base with keys := 0x01 }.setIo 0 0x20) 0xFF00 = 0xEE ∧
    State.loadByte ({ base with keys := 0x10 }.setIo 0 0x10) 0xFF00 = 0xDE ∧
    State.loadByte ({ base with keys := 0x21 }.setIo 0 0x00) 0xFF00 = 0xCC ∧
    State.loadByte ({ base with keys := 0x00 }.setIo 0 0x20) 0xFF00 = 0xEF ∧
    State.loadByte ({ base with keys := 0xFF }.setIo 0 0x30) 0xFF00 = 0xFF := by decide

/-- A bank controller with one rule: a write of 3 to 0x2000-0x3FFF selects ROM bank 3 of 4 (R52, R57). -/
def banked : State :=
  { base with cfg := { vectorConfig with
      romBanks := 4, ramBanks := 1
      mbcRules := [⟨0, 0x2000, 0x3FFF, 0x03, 0x03, 0, [.selectRomBank 3]⟩] } }

theorem test_banks :
    seen (banked.store 0x2000 0x03) (fun t => (t.romBank, t.place 0x4001)) = some (3, .cell .rom 0xC001) ∧
    seen (banked.store 0x2000 0x02) (fun t => t.romBank) = some 1 ∧
    refusalOf (banked.bankHook (.selectRomBank 4)) = some (.romBankOutOfRange 4) := by decide

/-- T1, T2 (DIV). -/
theorem test_divider :
    State.loadByte { base with clocks := 255 } 0xFF04 = 0x00 ∧
    State.loadByte { base with clocks := 256 } 0xFF04 = 0x01 ∧
    State.loadByte { base with clocks := 65536 } 0xFF04 = 0x00 ∧
    State.loadByte { base with clocks := 70000 } 0xFF04 = 0x11 ∧
    seen (State.store { base with clocks := 1000 } 0xFF04 0x99)
      (fun t => (State.loadByte { t with clocks := 1255 } 0xFF04, State.loadByte { t with clocks := 1256 } 0xFF04)) =
      some (0x00, 0x01) := by decide

/-- The timer running with TMA, TIMA and TAC given, anchored at `b`. -/
def timed (b : Nat) (tma tima tac : Byte) : State :=
  { ((base.setIo 6 tma).setIo 5 tima).setIo 7 tac with timerBase := b }

/-- T3, T4, T8. -/
theorem test_timer :
    State.loadByte { timed 100 0xFE 0xFD 0x05 with clocks := 115 } 0xFF05 = 0xFD ∧
    State.loadByte { timed 100 0xFE 0xFD 0x05 with clocks := 148 } 0xFF05 = 0xFE ∧
    State.loadByte { timed 100 0xFE 0xFD 0x05 with clocks := 196 } 0xFF05 = 0xFF ∧
    (State.catchUp { timed 0 0x00 0xFF 0x05 with clocks := 4800 }).tima = 0x2B ∧
    (State.catchUp { timed 0 0x00 0xFF 0x05 with clocks := 4800 }).ifReg = 0x04 ∧
    State.timerNextOverflow { timed 68 0x80 0xF1 0x05 with timerTicks := 1 } = some 324 := by decide +kernel

/-- T5, T6: a write of TAC restarts the phase; a write of TIMA keeps it. -/
theorem test_timer_writes :
    seen (State.store { timed 0 0x00 0x00 0x05 with clocks := 40 } 0xFF07 0x05)
      (fun t => (State.loadByte { t with clocks := 47 } 0xFF05, State.loadByte { t with clocks := 56 } 0xFF05)) =
      some (0x02, 0x03) ∧
    seen (State.store { timed 0 0x00 0x00 0x05 with clocks := 20 } 0xFF05 0x10)
      (fun t => State.loadByte { t with clocks := 32 } 0xFF05) = some 0x11 := by decide

/-- A state whose PPU is at a deadline, in state `p` and line `ly`, with STAT `stat` and LYC `lyc`. -/
def atDeadline (p : PpuState) (ly stat lyc : Byte) : State :=
  { ((base.setIo 0x44 ly).setIo 0x41 stat).setIo 0x45 lyc with ppu := p, nextTick := 1000, clocks := 1000, keysIn := [0] }

/-- S13, P2v, P3v: OAM to VRAM, and VRAM to H-blank with its STAT check. -/
theorem test_ppu_line :
    (fun t : State => (t.ppu, t.nextTick, t.stat &&& 3)) (atDeadline .oam 0 0x06 1).ppuStep = (.vram, 1172, 3) ∧
    (fun t : State => (t.ppu, t.nextTick, t.ifReg)) (atDeadline .vram 0 0x0F 1).ppuStep = (.hblank, 1204, 2) ∧
    (fun t : State => (t.ppu, t.ifReg)) (atDeadline .vram 0 0x4F 0).ppuStep = (.hblank, 0) := by decide

/-- P1v, P4v, P5v, P10v: the end of H-blank, into the next line or into V-blank. -/
theorem test_ppu_hblank :
    (fun t : State => (t.ppu, t.ly, t.ifReg, t.stat &&& 7)) (atDeadline .hblank 4 0x40 5).ppuStep = (.oam, 5, 2, 6) ∧
    (fun t : State => (t.ppu, t.ly, t.ifReg)) (atDeadline .hblank 0 0x20 9).ppuStep = (.oam, 1, 2) ∧
    (fun t : State => (t.ppu, t.ly, t.ifReg)) (atDeadline .hblank 143 0x10 9).ppuStep = (.vblank, 144, 3) ∧
    (atDeadline .hblank 143 0x18 9).ppuStep.ifReg = 1 := by decide

/-- P7v, P8v and the LCD-off rows: the V-blank tail. -/
theorem test_ppu_vblank :
    (fun t : State => (t.ly, t.nextTick, t.ifReg)) (atDeadline .vblank 152 0x41 153).ppuStep = (153, 1056, 2) ∧
    (fun t : State => (t.ly, t.nextTick, t.ifReg)) (atDeadline .vblank 153 0x51 0).ppuStep = (0, 1400, 0) ∧
    (fun t : State => (t.ppu, t.ly, t.nextTick)) (atDeadline .vblank 0 0x01 9).ppuStep = (.oam, 0, 1080) ∧
    (fun t : State => (t.ppu, t.nextTick, t.stat &&& 3)) ((atDeadline .vblank 0 0x01 9).setIo 0x40 0x11).ppuStep =
      (.lcdOff, 1456, 0) ∧
    (fun t : State => (t.ppu, t.nextTick, t.ly)) (atDeadline .lcdOff 0 0x00 9).ppuStep = (.oam, 1080, 0) := by decide

/-- Interrupts enabled by `ie` and requested by `ifr`, with IME = `ime`. -/
def requested (ie ifr : Byte) (ime : Bool) : State :=
  { (base.setIo 0xFF ie).setIo 0x0F ifr with ime := ime, pc := 0x1234 }

/-- I1 (S6), I3 (S8), I4. -/
theorem test_interrupts :
    seen (requested 0x05 0x05 true).interruptStep
      (fun t => (t.pc, t.ifReg, t.ime, t.sp, t.clocks)) = some (0x0040, 0x04, false, 0xFFFC, 20) ∧
    seen (requested 0x05 0x05 true).interruptStep (fun t => (t.rawRead 0xFFFD, t.rawRead 0xFFFC)) = some (0x12, 0x34) ∧
    seen (State.interruptStep { requested 0x04 0x04 false with halted := true }) (fun t => (t.halted, t.pc, t.ifReg)) =
      some (false, 0x1234, 0x04) ∧
    seen (requested 0xE0 0xE0 true).interruptStep (fun t => (t.pc, t.ime)) = some (0x1234, true) := by decide

/-- I5: the source is chosen before the push, whose high byte lands in IE. -/
theorem test_interrupt_push_into_ie :
    seen (State.interruptStep { requested 0x10 0x1F true with sp := 0x0000, pc := 0x0300 })
      (fun t => (t.pc, t.ifReg, t.ie, t.sp)) = some (0x0060, 0x0F, 0x03, 0xFFFE) := by decide

/-! ## For every statement with hypotheses, a state and operands that meet them, at the edges of each clause -/

theorem test_witness_DecodeOfEncode : (Instr.jp_nn 0xFFFF).wf = true ∧ (Instr.stop 0xFF).wf = true := by decide

theorem test_witness_StepRunsTheDecodedInstruction :
    (withCode [0x3E, 0x5A] base).running = true ∧
    (let s := withCode [0x3E, 0x5A] base
     decode [s.opcode, s.operand1, s.operand2] = .ok (.ld_a_n 0x5A, [0x00])) ∧
    State.running { withCode [0x3E, 0x5A] base with exitIn := some 1 } = true ∧
    State.running { withCode [0x3E, 0x5A] base with slot := 23, exitIn := some 0 } = true := by decide

theorem test_witness_FetchAdvancesPc : base.haltBug = false ∧ State.haltBug { base with haltBug := true } = true := by
  decide

theorem test_witness_UnitsWaitForTheBatch : after (withCode [0x77] base) (fun t => decide (t.slot ≠ 0)) = some true := by
  decide

theorem test_witness_FaultsExactlyWhenTold :
    faultOf (step { base with exitIn := some 0 }) = some .hostExit ∧
    (let s := { base with fault := some ⟨0x0150, 0xD3⟩, exitIn := some 0, slot := 1 }
     s.exitDue = false ∧ faultOf (step s) = some (.illegalOpcode 0x0150 0xD3)) := by decide

theorem test_witness_MachineNeverStuck :
    base.cfg.wf = true ∧ base.exitDue = false ∧ base.fault = none ∧ banked.cfg.wf = true ∧
    completes (step { base with halted := true }) = true ∧
    completes (step { base with stopped := true, slot := 3 }) = true := by
  refine ⟨rfl, rfl, rfl, by decide, by decide, by decide⟩

theorem test_witness_UndefinedOpcodeFreezesTheMachine :
    ((0xD3, Instr.illegal_d3) : Byte × Instr) ∈ illegalRows ∧ ((0xFD, Instr.illegal_fd) : Byte × Instr) ∈ illegalRows ∧
    (withCode [0xD3] base).running = true ∧ (withCode [0xD3] base).opcode = 0xD3 ∧
    State.running { withCode [0xFD] base with haltBug := true } = true := by decide

/-- The hypotheses of the invariants of every step, at the edges of their ranges. -/
theorem test_witness_invariants :
    (withCode [0x77] base).memWf = true ∧ base.flagsWf = true ∧ base.anchorsWf = true ∧ base.banksWf = true ∧
    State.banksWf { banked with romBank := 3 } = true ∧ base.modeWf = true ∧ (atDeadline .lcdOff 0 0x00 9).modeWf = true ∧
    (atDeadline .hblank 143 0x00 9).lineWf = true ∧ (atDeadline .vblank 144 0x01 9).lineWf = true ∧
    (atDeadline .vblank 153 0x01 9).lineWf = true ∧ (atDeadline .vblank 0 0x01 9).lineWf = true ∧
    completes (step (withCode [0x77] base)) = true ∧ completes (step (atDeadline .vblank 153 0x01 9)) = true := by decide

theorem test_witness_ResetValues :
    (Cartridge.mk (List.replicate 32768 0x00) 2 0 []).fits = true := by
  simp only [Cartridge.fits, List.length_replicate]
  decide

theorem test_witness_exec_next :
    completes (exec .halt base) = true ∧ completes (exec (.stop 0x00) base) = true ∧ completes (exec .reti base) = true ∧
    completes (exec .illegal_fd base) = true ∧ completes (exec (.prefix_cb 0x86) base) = true := by decide

theorem test_witness_EchoRamMirrorsWorkRam :
    0xE000 ≤ (0xE000#16).toNat ∧ (0xE000#16).toNat < 0xFE00 ∧ 0xE000 ≤ (0xFDFF#16).toNat ∧ (0xFDFF#16).toNat < 0xFE00 := by
  decide

/-- The clauses of `Stored`: storing addresses, the controller's, and the disabled area, at their edges. -/
theorem test_witness_stores :
    base.storesAt 0x8000 = true ∧ base.storesAt 0x9FFF = true ∧ base.storesAt 0xC000 = true ∧ base.storesAt 0xFEFF = true ∧
    base.storesAt 0xFF00 = true ∧ base.storesAt 0xFF80 = true ∧ base.storesAt 0x7FFF = false ∧
    base.storesAt 0xFF05 = false ∧ base.storesAt 0xFFFF = false ∧
    base.place 0xA000 = .disabled ∧ base.place 0xBFFF = .disabled ∧ banked.storesAt 0xA000 = true ∧
    base.place 0xFFFD ≠ base.place 0xFFFC := by decide

theorem test_witness_WriteBelow8000IsTheControllers :
    completes (base.store 0x7FFF 0x01) = true ∧ completes (banked.store 0x2000 0x03) = true := by decide

theorem test_witness_BankHooksRepointTheirWindows :
    1 < base.cfg.romBanks ∧ base.cfg.romBanks ≤ 2 ∧ base.cfg.ramBanks = 0 ∧ 0 < banked.cfg.ramBanks ∧
    banked.cfg.ramBanks ≠ 0 ∧ banked.cfg.ramBanks ≤ 1 := by decide

theorem test_witness_JoypadRead :
    (base.setIo 0 0x30).p1.getLsbD 4 = true ∧ (base.setIo 0 0x30).p1.getLsbD 5 = true ∧
    (base.setIo 0 0x20).p1.getLsbD 4 = false := by decide

theorem test_witness_CatchUpTicksOneAtATime :
    timerEnabled base.tac = false ∧
    (let s : State := { timed 0 0x00 0xFF 0x05 with clocks := 16 }
     timerEnabled s.tac = true ∧ s.timerTicks < s.timerTarget ∧ s.tima = 0xFF) ∧
    (let s : State := { timed 0 0x00 0xFE 0x05 with clocks := 16 }
     timerEnabled s.tac = true ∧ s.timerTicks < s.timerTarget ∧ s.tima ≠ 0xFF) ∧
    (let s : State := { timed 0 0x00 0xFE 0x05 with clocks := 15 }
     timerEnabled s.tac = true ∧ s.timerTarget ≤ s.timerTicks) := by decide

theorem test_witness_NextOverflowIsExact :
    State.timerNextOverflow { timed 68 0x80 0xF1 0x05 with timerTicks := 1 } = some 324 ∧
    (timed 0 0x80 0xFF 0x04).timerNextOverflow = some 1024 := by decide

theorem test_witness_PpuStepLeavesNoDeadlineBehind :
    base.clocks < base.nextTick ∧ (atDeadline .oam 0 0x02 9).nextTick ≤ (atDeadline .oam 0 0x02 9).clocks := by decide

/-- Every clause of the PPU's transitions, at the lines where clauses meet. -/
theorem test_witness_PpuTransitions :
    (atDeadline .hblank 143 0x00 9).ly = 143 ∧ (atDeadline .hblank 142 0x00 9).ly ≠ 143 ∧
    (atDeadline .vblank 153 0x01 9).ly ≠ 0 ∧ (atDeadline .vblank 0 0x01 9).ly = 0 ∧
    (atDeadline .vblank 0 0x01 9).lcdc.getLsbD 7 = true ∧
    ((atDeadline .vblank 0 0x01 9).setIo 0x40 0x11).lcdc.getLsbD 7 = false ∧
    (atDeadline .oam 0 0x02 9).ppu = .oam ∧ (atDeadline .vram 0 0x03 9).ppu = .vram ∧
    (atDeadline .lcdOff 0 0x00 9).ppu = .lcdOff := by decide

theorem test_witness_IdleCpuAdvancesTime :
    (let s : State := { base with halted := true, keysIn := [0x01] }
     s.exitDue = false ∧ s.fault = none ∧ s.slot = 0 ∧ timerEnabled s.tac = false ∧ (80 : Nat) = s.nextTick) ∧
    (let s : State := { timed 68 0x80 0xF1 0x05 with timerTicks := 1, stopped := true, nextTick := 456, keysIn := [0x00] }
     s.nextKeys = 0 ∧ timerEnabled s.tac = true ∧
     324 = min s.nextTick (s.timerBase + (s.timerTicks + 256 - s.tima.toNat) * 2 ^ timerShift s.tac)) := by decide

theorem test_witness_InterruptStep_service :
    (let s := requested 0x11 0x11 true
     s.ime = true ∧ s.ie.getLsbD 0 = true ∧ s.ifReg.getLsbD 0 = true ∧
     completes (seq ((s.setIo 0x0F (s.ifReg &&& ~~~(1#8 <<< 0))).store (s.sp - 1) (s.pc.extractLsb' 8 8)) fun m =>
       m.store (s.sp - 2) (s.pc.extractLsb' 0 8)) = true) ∧
    (let s := requested 0x10 0x1F true
     s.ie.getLsbD 4 = true ∧ s.ifReg.getLsbD 4 = true ∧
     (∀ j, j < 4 → ¬ (s.ie.getLsbD j = true ∧ s.ifReg.getLsbD j = true)) ∧
     completes (seq ((s.setIo 0x0F (s.ifReg &&& ~~~(1#8 <<< 4))).store (s.sp - 1) (s.pc.extractLsb' 8 8)) fun m =>
       m.store (s.sp - 2) (s.pc.extractLsb' 0 8)) = true) := by decide

theorem test_witness_InterruptStep_no_service :
    (∀ k, k < 5 → ¬ ((requested 0xE0 0xFF true).ie.getLsbD k = true ∧
      (requested 0xE0 0xFF true).ifReg.getLsbD k = true)) ∧
    (requested 0x10 0x10 false).ie.getLsbD 4 = true ∧ (requested 0x10 0x10 false).ifReg.getLsbD 4 = true ∧
    (requested 0x10 0x10 false).ime = false ∧ (requested 0x10 0x10 false).cfg.wf = true := by decide

theorem test_witness_RetiUndoesTheService :
    (let s : State := { requested 0x01 0x01 true with sp := 0xDFFE }
     s.ime = true ∧ s.pending ≠ 0 ∧ s.plainAt (s.sp - 1) = true ∧ s.plainAt (s.sp - 2) = true ∧
     completes s.interruptStep = true) ∧
    (let s : State := { requested 0x01 0x01 true with sp := 0xFFFE }
     s.ime = true ∧ s.pending ≠ 0 ∧ s.plainAt (s.sp - 1) = true ∧ s.plainAt (s.sp - 2) = true ∧
     completes s.interruptStep = true) ∧
    base.plainAt 0x8000 = true ∧ base.plainAt 0x7FFF = false ∧ base.plainAt 0xFEFF = true ∧ base.plainAt 0xFF00 = false ∧
    base.plainAt 0xFF80 = true ∧ base.plainAt 0xFFFF = false := by
  decide

/-- The only hypothesis of the statements about instructions that store. -/
theorem test_witness_storing_instructions : base.cfg.wf = true ∧ banked.cfg.wf = true ∧ base.flagsWf = true := by decide

/-- The clauses of `LoadFrame` and `PopFrame`: the read of TIMA, as the first and as the second byte, and the rest. -/
theorem test_witness_reads :
    (0xFF05#16) + 1 ≠ 0xFF05 ∧ (0xFF04#16) ≠ 0xFF05 ∧ (0xFF04#16) + 1 = 0xFF05 ∧
    (base.sp ≠ 0xFF05 ∧ base.sp + 1 ≠ 0xFF05) := by decide

theorem test_witness_DecimalAdjust :
    (let s : State := { base with a := 0x9A, f := 0x00 }
     0xA0 = (if s.flagN then (if s.flagH then (s.a.toNat + 256 - 6) % 256 else s.a.toNat)
       else if s.flagH ∨ 9 < s.a.toNat % 16 then s.a.toNat + 6 else s.a.toNat) ∧
     0x100 = (if s.flagN then (if s.flagC then (0xA0 + 65536 - 0x60) % 65536 else 0xA0)
       else if s.flagC ∨ 0x9F < 0xA0 then 0xA0 + 0x60 else 0xA0)) := by decide

theorem test_witness_StackPointerPlusOffset :
    true = decide (0x0F < (State.sp { base with sp := 0xFFFF }).toNat % 16 + (0x01#8).toNat % 16) ∧
    true = decide (0xFF < (State.sp { base with sp := 0xFFFF }).toNat % 256 + (0x01#8).toNat) := by decide

/-- Both outcomes of a condition. -/
theorem test_witness_conditions :
    State.holds { base with f := 0x80 } .z = true ∧ State.holds { base with f := 0x80 } .nz = false ∧
    State.holds { base with f := 0x10 } .c = true ∧ State.holds { base with f := 0x10 } .nc = false := by decide

end Sys2Proof.Tests
end

section
/-! What the decoder can answer, as cases for an argument about every fetched instruction. -/

namespace Sys2Proof.Machine

/-- The rows that the decoder answers (R87 to R89): a constructor for each operand form, one for the eleven
undefined opcodes, and one for each row that stands alone. -/
inductive Decoded : Instr → Prop where
  | nop : Decoded .nop
  | stop (n : Byte) : Decoded (.stop n)
  | halt : Decoded .halt
  | di : Decoded .di
  | ei : Decoded .ei
  | illegal {op : Byte} {i : Instr} (h : (op, i) ∈ illegalRows) : Decoded i
  | ldRegReg (dst r : Reg8) : Decoded (.ldRegReg dst r)
  | ldRegImm (n : Byte) (r : Reg8) : Decoded (.ldRegImm n r)
  | ldRegMem (r : Reg8) : Decoded (.ldRegMem r)
  | ldMemReg (r : Reg8) : Decoded (.ldMemReg r)
  | ld_mhl_n (n : Byte) : Decoded (.ld_mhl_n n)
  | ld_mbc_a : Decoded .ld_mbc_a
  | ld_a_mbc : Decoded .ld_a_mbc
  | ld_mde_a : Decoded .ld_mde_a
  | ld_a_mde : Decoded .ld_a_mde
  | ld_mhli_a : Decoded .ld_mhli_a
  | ld_a_mhli : Decoded .ld_a_mhli
  | ld_mhld_a : Decoded .ld_mhld_a
  | ld_a_mhld : Decoded .ld_a_mhld
  | ldh_mn_a (n : Byte) : Decoded (.ldh_mn_a n)
  | ldh_a_mn (n : Byte) : Decoded (.ldh_a_mn n)
  | ld_mc_a : Decoded .ld_mc_a
  | ld_a_mc : Decoded .ld_a_mc
  | ld_mnn_a (nn : Word) : Decoded (.ld_mnn_a nn)
  | ld_a_mnn (nn : Word) : Decoded (.ld_a_mnn nn)
  | ldPairImm (nn : Word) (r : Reg16) : Decoded (.ldPairImm nn r)
  | ld_mnn_sp (nn : Word) : Decoded (.ld_mnn_sp nn)
  | ld_sp_hl : Decoded .ld_sp_hl
  | ld_hl_spe (e : Byte) : Decoded (.ld_hl_spe e)
  | push (q : StackReg) : Decoded (.push q)
  | pop (q : StackReg) : Decoded (.pop q)
  | aluReg (op : AluOp) (r : Reg8) : Decoded (.aluReg op r)
  | aluMem (op : AluOp) : Decoded (.aluMem op)
  | aluImm (n : Byte) (op : AluOp) : Decoded (.aluImm n op)
  | incReg (r : Reg8) : Decoded (.incReg r)
  | decReg (r : Reg8) : Decoded (.decReg r)
  | inc_mhl : Decoded .inc_mhl
  | dec_mhl : Decoded .dec_mhl
  | daa : Decoded .daa
  | cpl : Decoded .cpl
  | scf : Decoded .scf
  | ccf : Decoded .ccf
  | incPair (r : Reg16) : Decoded (.incPair r)
  | decPair (r : Reg16) : Decoded (.decPair r)
  | addHl (r : Reg16) : Decoded (.addHl r)
  | add_sp_e (e : Byte) : Decoded (.add_sp_e e)
  | rlca : Decoded .rlca
  | rrca : Decoded .rrca
  | rla : Decoded .rla
  | rra : Decoded .rra
  | shiftReg (op : ShiftOp) (r : Reg8) : Decoded (.shiftReg op r)
  | shiftMem (op : ShiftOp) : Decoded (.shiftMem op)
  | bitReg (k : BitVec 3) (r : Reg8) : Decoded (.bitReg k r)
  | bitMem (k : BitVec 3) : Decoded (.bitMem k)
  | resReg (k : BitVec 3) (r : Reg8) : Decoded (.resReg k r)
  | resMem (k : BitVec 3) : Decoded (.resMem k)
  | setReg (k : BitVec 3) (r : Reg8) : Decoded (.setReg k r)
  | setMem (k : BitVec 3) : Decoded (.setMem k)
  | jr_e (e : Byte) : Decoded (.jr_e e)
  | jrIf (e : Byte) (cc : Cond) : Decoded (.jrIf e cc)
  | jp_nn (nn : Word) : Decoded (.jp_nn nn)
  | jpIf (nn : Word) (cc : Cond) : Decoded (.jpIf nn cc)
  | jp_hl : Decoded .jp_hl
  | call_nn (nn : Word) : Decoded (.call_nn nn)
  | callIf (nn : Word) (cc : Cond) : Decoded (.callIf nn cc)
  | ret : Decoded .ret
  | retIf (cc : Cond) : Decoded (.retIf cc)
  | reti : Decoded .reti
  | rst (t : BitVec 3) : Decoded (.rst t)

/-- What holds of all eight alternatives holds of the selected one. -/
theorem select8_of_all {α : Type} {p : α → Prop} (k : BitVec 3) {a0 a1 a2 a3 a4 a5 a6 a7 : α}
    (h0 : p a0) (h1 : p a1) (h2 : p a2) (h3 : p a3) (h4 : p a4) (h5 : p a5) (h6 : p a6) (h7 : p a7) :
    p (select8 k a0 a1 a2 a3 a4 a5 a6 a7) := by
  unfold select8
  split <;> assumption

theorem decoded_decodeCb (op2 : Byte) : Decoded (decodeCb op2) := by
  unfold decodeCb
  dsimp only
  split
  · exact .shiftReg _ _
  · exact .shiftMem _
  · exact .bitReg _ _
  · exact .bitMem _
  · exact .resReg _ _
  · exact .resMem _
  · exact .setReg _ _
  · exact .setMem _

theorem decoded_decodeQuarter0 (op n : Byte) (nn : Word) : Decoded (decodeQuarter0 op n nn) := by
  unfold decodeQuarter0
  dsimp only
  split
  · exact select8_of_all _ .nop (.ld_mnn_sp nn) (.stop n) (.jr_e n) (.jrIf n .nz) (.jrIf n .z) (.jrIf n .nc) (.jrIf n .c)
  · split
    · exact .addHl _
    · exact .ldPairImm nn _
  · exact select8_of_all _ .ld_mbc_a .ld_a_mbc .ld_mde_a .ld_a_mde .ld_mhli_a .ld_a_mhli .ld_mhld_a .ld_a_mhld
  · split
    · exact .decPair _
    · exact .incPair _
  · split
    · exact .incReg _
    · exact .inc_mhl
  · split
    · exact .decReg _
    · exact .dec_mhl
  · split
    · exact .ldRegImm n _
    · exact .ld_mhl_n n
  · exact select8_of_all _ .rlca .rrca .rla .rra .daa .cpl .scf .ccf

theorem decoded_decodeQuarter1 (op : Byte) : Decoded (decodeQuarter1 op) := by
  unfold decodeQuarter1
  split
  · exact .ldRegReg _ _
  · exact .ldRegMem _
  · exact .ldMemReg _
  · exact .halt

theorem decoded_decodeQuarter2 (op : Byte) : Decoded (decodeQuarter2 op) := by
  unfold decodeQuarter2
  split
  · exact .aluReg _ _
  · exact .aluMem _

theorem decoded_decodeQuarter3 (op n : Byte) (nn : Word) : Decoded (decodeQuarter3 op n nn) := by
  have undefined (row : Byte × Instr) (h : row ∈ illegalRows) : Decoded row.2 := .illegal h
  unfold decodeQuarter3
  dsimp only
  split
  · exact select8_of_all _ (.retIf .nz) (.retIf .z) (.retIf .nc) (.retIf .c) (.ldh_mn_a n) (.add_sp_e n) (.ldh_a_mn n)
      (.ld_hl_spe n)
  · split
    · exact select8_of_all _ .ret .ret .reti .reti .jp_hl .jp_hl .ld_sp_hl .ld_sp_hl
    · exact .pop _
  · exact select8_of_all _ (.jpIf nn .nz) (.jpIf nn .z) (.jpIf nn .nc) (.jpIf nn .c) .ld_mc_a (.ld_mnn_a nn) .ld_a_mc
      (.ld_a_mnn nn)
  · exact select8_of_all _ (.jp_nn nn) (decoded_decodeCb n) (undefined (0xD3, _) (by decide))
      (undefined (0xDB, _) (by decide)) (undefined (0xE3, _) (by decide)) (undefined (0xEB, _) (by decide)) .di .ei
  · exact select8_of_all _ (.callIf nn .nz) (.callIf nn .z) (.callIf nn .nc) (.callIf nn .c)
      (undefined (0xE4, _) (by decide)) (undefined (0xEC, _) (by decide)) (undefined (0xF4, _) (by decide))
      (undefined (0xFC, _) (by decide))
  · split
    · have hdd := undefined (0xDD, .illegal_dd) (by decide)
      have hed := undefined (0xED, .illegal_ed) (by decide)
      have hfd := undefined (0xFD, .illegal_fd) (by decide)
      exact select8_of_all _ (.call_nn nn) (.call_nn nn) hdd hdd hed hed hfd hfd
    · exact .push _
  · exact .aluImm n _
  · exact .rst _

/-- The decoder answers the rows of `Decoded` only (R87, R88). -/
theorem decoded_decodeBytes (op b1 b2 : Byte) : Decoded (decodeBytes op b1 b2) := by
  unfold decodeBytes
  split
  · exact decoded_decodeQuarter0 _ _ _
  · exact decoded_decodeQuarter1 _
  · exact decoded_decodeQuarter2 _
  · exact decoded_decodeQuarter3 _ _ _

end Sys2Proof.Machine
end

section
/-! A step is made of a few elementary operations. A relation between the state before and the state after that each of
them keeps is kept by every step: the induction behind the invariants of `step`. -/

namespace Sys2Proof.Machine

theorem getLsbD_packFlags_low (z n h c : Bool) (low : BitVec 4) {i : Nat} (hi : i < 4) :
    (packFlags z n h c low).getLsbD i = low.getLsbD i :=
  BitVec.getLsbD_append.trans (if_pos hi)

/-- A flag update keeps F[3:0] (R24). -/
@[simp] theorem packFlags_and_low (z n h c : Bool) (f : Byte) :
    packFlags z n h c (f.extractLsb' 0 4) &&& 15#8 = f &&& 15#8 := by
  refine BitVec.eq_of_getLsbD_eq fun i _ => ?_
  by_cases hi : i < 4
  · simp [getLsbD_packFlags_low, hi]
  · have hmask : (15#8).getLsbD i = false := BitVec.getLsbD_of_ge 15#4 i (by omega)
    simp [hmask]

/-- POP AF clears F[3:0] (R113), and no other pair writes F. -/
theorem setStack_lowF (s : State) (q : StackReg) (v : Word) :
    (s.setStack q v).f &&& 0x0F = s.f &&& 0x0F ∨ (s.setStack q v).f &&& 0x0F = 0 := by
  cases q with
  | bc => exact .inl rfl
  | de => exact .inl rfl
  | hl => exact .inl rfl
  | af =>
    right
    show loByte v &&& 0xF0 &&& 0x0F = 0
    simp [BitVec.and_assoc]

/-- From `s` to `t` only the CPU moves: its registers and latches, the cycle counter, which does not go back, the place in
the batch, the exit request and the record of calls to the host. F[3:0] is kept or cleared (R24, R113). The laws of
`State` give simp every field, so that `{}` proves it of an update written out. -/
structure CpuOnly (s t : State) : Prop where
  lowF : t.f &&& 0x0F = s.f &&& 0x0F ∨ t.f &&& 0x0F = 0 := by simp
  clocks : s.clocks ≤ t.clocks := by simp
  rom : t.rom = s.rom := by simp
  vram : t.vram = s.vram := by simp
  sram : t.sram = s.sram := by simp
  wram : t.wram = s.wram := by simp
  oam : t.oam = s.oam := by simp
  io : t.io = s.io := by simp
  romBank : t.romBank = s.romBank := by simp
  ramBank : t.ramBank = s.ramBank := by simp
  ppu : t.ppu = s.ppu := by simp
  nextTick : t.nextTick = s.nextTick := by simp
  divBase : t.divBase = s.divBase := by simp
  timerBase : t.timerBase = s.timerBase := by simp
  timerTicks : t.timerTicks = s.timerTicks := by simp
  keys : t.keys = s.keys := by simp
  keysIn : t.keysIn = s.keysIn := by simp
  keysSeen : t.keysSeen = s.keysSeen := by simp
  cfg : t.cfg = s.cfg := by simp
  mbcState : t.mbcState = s.mbcState := by simp

theorem CpuOnly.raiseIllegalOpcode (s : State) (op : Byte) : CpuOnly s (s.raiseIllegalOpcode op) :=
  show CpuOnly s { s.emit (.faultReport s.opPc op) with fault := some ⟨s.opPc, op⟩ } from {}

/-- `R` relates the state before to the state after for each elementary operation of a step, and for their sequences: what
only moves the CPU, the byte store (R56), the timer's catch-up (R222), a transition of the PPU (R229), the input refresh
(R241), and the write of IF in the service of an interrupt (R214). An invariant `P` is the relation `P s → P t`. -/
structure KeptByOps (R : State → State → Prop) : Prop where
  trans : ∀ {s t u}, R s t → R t u → R s u
  cpu : ∀ {s t}, CpuOnly s t → R s t
  store : ∀ {s t a v}, s.store a v = .next t → R s t
  catchUp : ∀ s, R s s.catchUp
  ppuTransition : ∀ s, R s s.ppuTransition
  inputRefresh : ∀ s, R s s.inputRefresh
  setIf : ∀ s v, R s (s.setIo 0x0F v)

/-- If the result `r` of an operation on `s` is a next state, it stands in the relation `R` to `s`. -/
def LeadsTo (R : State → State → Prop) (s : State) (r : Result) : Prop := ∀ t, r = .next t → R s t

theorem LeadsTo.next {R : State → State → Prop} {s t : State} (h : R s t) : LeadsTo R s (.next t) := by
  rintro _ ⟨⟩
  exact h

theorem LeadsTo.ite {R : State → State → Prop} {s : State} {p : Prop} [Decidable p] {r r' : Result}
    (h : LeadsTo R s r) (h' : LeadsTo R s r') : LeadsTo R s (if p then r else r') := by
  split <;> assumption

namespace KeptByOps

variable {R : State → State → Prop} (hR : KeptByOps R)
include hR

theorem refl (s : State) : R s s := hR.cpu {}

/-! ## Results -/

theorem nextCpu {s t : State} (h : CpuOnly s t) : LeadsTo R s (.next t) := .next (hR.cpu h)

theorem nextThen {s t u : State} (h : R s t) (hc : CpuOnly t u) : LeadsTo R s (.next u) :=
  .next (hR.trans h (hR.cpu hc))

theorem seq {s : State} {r : Result} {k : State → Result} (hr : LeadsTo R s r) (hk : ∀ u, LeadsTo R u (k u)) :
    LeadsTo R s (seq r k) := by
  intro t ht
  obtain ⟨u, hu, ht⟩ := seq_eq_next.mp ht
  exact hR.trans (hr u hu) (hk u t ht)

/-- An operation on a later state. -/
theorem after {s u : State} {r : Result} (h : R s u) (hr : LeadsTo R u r) : LeadsTo R s r :=
  fun t ht => hR.trans h (hr t ht)

theorem storeByte (s : State) (a : Word) (v : Byte) : LeadsTo R s (s.store a v) := fun _ => hR.store

/-! ## The bus, the stack and the fetch -/

theorem afterLoad (s : State) (a : Word) : R s (s.afterLoad a) := by
  unfold State.afterLoad
  split
  · exact hR.catchUp s
  · exact hR.refl s

theorem afterPopByte (s : State) : R s s.afterPopByte :=
  hR.trans (hR.afterLoad s s.sp) (hR.cpu (t := { s.afterLoad s.sp with sp := s.sp + 1 }) {})

theorem afterPop (s : State) : R s s.afterPop := hR.trans (hR.afterPopByte s) (hR.afterPopByte _)

theorem afterFetch (s : State) : R s s.afterFetch := by
  refine hR.trans (hR.afterLoad s s.pc) (hR.cpu ?_)
  unfold State.afterFetch
  dsimp only
  split
  · exact {}
  · exact {}

theorem fetchMore (n : Nat) (s : State) : R s (fetchMore n s) := by
  induction n generalizing s with
  | zero => exact hR.refl s
  | succ n ih => exact hR.trans (hR.afterFetch s) (ih _)

theorem afterInstr (s : State) : R s s.afterInstr :=
  hR.trans (hR.cpu (t := { s with opPc := s.pc }) {}) (hR.fetchMore _ _)

theorem storeWord (s : State) (a v : Word) : LeadsTo R s (s.storeWord a v) :=
  hR.seq (hR.storeByte _ _ _) fun _ => hR.storeByte _ _ _

theorem pushByte (s : State) (v : Byte) : LeadsTo R s (s.pushByte v) :=
  hR.after (hR.cpu {}) (hR.storeByte { s with sp := s.sp - 1 } _ _)

theorem push (s : State) (v : Word) : LeadsTo R s (s.push v) := hR.seq (hR.pushByte _ _) fun _ => hR.pushByte _ _

theorem returnToCaller (s : State) : R s s.returnToCaller :=
  hR.trans (hR.afterPop s) (hR.cpu (t := { s.afterPop with pc := s.popValue }) {})

theorem returnFromInterrupt (s : State) : R s s.returnFromInterrupt :=
  hR.trans (hR.returnToCaller s) (hR.cpu (t := { s.returnToCaller with ime := true }) {})

/-! ## The shared operations of the instructions -/

theorem loadReg (r : Reg8) (a : Word) (n : Nat) (s : State) : LeadsTo R s (loadReg r a n s) :=
  hR.nextThen (hR.afterLoad s a) {}

theorem storeThen (s : State) (a : Word) (v : Byte) (n : Nat) : LeadsTo R s (s.storeThen a v n) :=
  hR.seq (hR.storeByte _ _ _) fun _ => hR.nextCpu {}

theorem loadAndMove (hl : Word) (s : State) : LeadsTo R s (loadAndMove hl s) := hR.nextThen (hR.afterLoad s s.hl) {}

theorem storeAndMove (hl : Word) (s : State) : LeadsTo R s (storeAndMove hl s) :=
  hR.seq (hR.storeByte _ _ _) fun _ => hR.nextCpu {}

theorem replaceAtHl (s : State) (o : AluOut) (n : Nat) : LeadsTo R s (s.replaceAtHl o n) :=
  hR.seq (hR.after (hR.afterLoad s s.hl) (hR.storeByte _ _ _)) fun _ => hR.nextCpu {}

theorem writeBitMem (v : Bool) (k : Nat) (s : State) : LeadsTo R s (writeBitMem v k s) :=
  hR.seq (hR.after (hR.afterLoad s s.hl) (hR.storeByte _ _ _)) fun _ => hR.nextCpu {}

theorem rotateAccumulator (op : ShiftOp) (s : State) : LeadsTo R s (rotateAccumulator op s) := hR.nextCpu {}

theorem jumpIf (cc : Cond) (target : Word) (n m : Nat) (s : State) : LeadsTo R s (jumpIf cc target n m s) :=
  .ite (hR.nextCpu {}) (hR.nextCpu {})

theorem call (target : Word) (n : Nat) (s : State) : LeadsTo R s (call target n s) :=
  hR.seq (hR.push _ _) fun _ => hR.nextCpu {}

/-! ## Every instruction the decoder answers -/

theorem exec {i : Instr} (h : Decoded i) (s : State) : LeadsTo R s (exec i s) := by
  cases h with
  | nop => exact hR.nextCpu {}
  | stop n => exact hR.nextCpu {}
  | halt => exact hR.nextCpu {}
  | di => exact hR.nextCpu {}
  | ei => exact hR.nextCpu {}
  | illegal h => rw [exec_illegal h]; exact hR.nextCpu (.raiseIllegalOpcode s _)
  | ldRegReg dst r => rw [exec_ldRegReg]; exact hR.nextCpu {}
  | ldRegImm n r => rw [exec_ldRegImm]; exact hR.nextCpu {}
  | ldRegMem r => rw [exec_ldRegMem]; exact hR.loadReg _ _ _ s
  | ldMemReg r => rw [exec_ldMemReg]; exact hR.storeThen s _ _ _
  | ld_mhl_n n => exact hR.storeThen s _ _ _
  | ld_mbc_a => exact hR.storeThen s _ _ _
  | ld_a_mbc => exact hR.loadReg _ _ _ s
  | ld_mde_a => exact hR.storeThen s _ _ _
  | ld_a_mde => exact hR.loadReg _ _ _ s
  | ld_mhli_a => exact hR.storeAndMove _ s
  | ld_a_mhli => exact hR.loadAndMove _ s
  | ld_mhld_a => exact hR.storeAndMove _ s
  | ld_a_mhld => exact hR.loadAndMove _ s
  | ldh_mn_a n => exact hR.storeThen s _ _ _
  | ldh_a_mn n => exact hR.loadReg _ _ _ s
  | ld_mc_a => exact hR.storeThen s _ _ _
  | ld_a_mc => exact hR.loadReg _ _ _ s
  | ld_mnn_a nn => exact hR.storeThen s _ _ _
  | ld_a_mnn nn => exact hR.loadReg _ _ _ s
  | ldPairImm nn r => rw [exec_ldPairImm]; exact hR.nextCpu {}
  | ld_mnn_sp nn => exact hR.seq (hR.storeWord s nn s.sp) fun _ => hR.nextCpu {}
  | ld_sp_hl => exact hR.nextCpu {}
  | ld_hl_spe e => exact hR.nextCpu {}
  | push q => rw [exec_push]; exact hR.seq (hR.push s _) fun _ => hR.nextCpu {}
  | pop q => rw [exec_pop]; exact hR.nextThen (hR.afterPop s) { lowF := setStack_lowF _ _ _ }
  | aluReg op r => rw [exec_aluReg]; exact hR.nextCpu {}
  | aluMem op => rw [exec_aluMem]; exact hR.nextThen (hR.afterLoad s s.hl) {}
  | aluImm n op => rw [exec_aluImm]; exact hR.nextCpu {}
  | incReg r => rw [exec_incReg]; exact hR.nextCpu {}
  | decReg r => rw [exec_decReg]; exact hR.nextCpu {}
  | inc_mhl => exact hR.replaceAtHl s _ _
  | dec_mhl => exact hR.replaceAtHl s _ _
  | daa => exact hR.nextCpu {}
  | cpl => exact hR.nextCpu {}
  | scf => exact hR.nextCpu {}
  | ccf => exact hR.nextCpu {}
  | incPair r => rw [exec_incPair]; exact hR.nextCpu {}
  | decPair r => rw [exec_decPair]; exact hR.nextCpu {}
  | addHl r => rw [exec_addHl]; exact hR.nextCpu {}
  | add_sp_e e => exact hR.nextCpu {}
  | rlca => exact hR.rotateAccumulator _ s
  | rrca => exact hR.rotateAccumulator _ s
  | rla => exact hR.rotateAccumulator _ s
  | rra => exact hR.rotateAccumulator _ s
  | shiftReg op r => rw [exec_shiftReg]; exact hR.nextCpu {}
  | shiftMem op => rw [exec_shiftMem]; exact hR.replaceAtHl s _ _
  | bitReg k r => rw [exec_bitReg]; exact hR.nextCpu {}
  | bitMem k => rw [exec_bitMem]; exact hR.nextThen (hR.afterLoad s s.hl) {}
  | resReg k r => rw [exec_resReg]; exact hR.nextCpu {}
  | resMem k => rw [exec_resMem]; exact hR.writeBitMem _ _ s
  | setReg k r => rw [exec_setReg]; exact hR.nextCpu {}
  | setMem k => rw [exec_setMem]; exact hR.writeBitMem _ _ s
  | jr_e e => exact hR.nextCpu {}
  | jrIf e cc => rw [exec_jrIf]; exact hR.jumpIf _ _ _ _ s
  | jp_nn nn => exact hR.nextCpu {}
  | jpIf nn cc => rw [exec_jpIf]; exact hR.jumpIf _ _ _ _ s
  | jp_hl => exact hR.nextCpu {}
  | call_nn nn => exact hR.call _ _ s
  | callIf nn cc => rw [exec_callIf]; exact .ite (hR.call _ _ s) (hR.nextCpu {})
  | ret => exact hR.nextThen (hR.returnToCaller s) {}
  | retIf cc => rw [exec_retIf]; exact .ite (hR.nextThen (hR.returnToCaller s) {}) (hR.nextCpu {})
  | reti => exact hR.nextThen (hR.returnFromInterrupt s) {}
  | rst t => rw [exec_rst]; exact hR.call _ _ s

theorem executeOne (s : State) : LeadsTo R s s.executeOne :=
  hR.after (hR.afterInstr s) (hR.exec (decoded_decodeBytes _ _ _) _)

/-! ## The units and the main loop -/

theorem ppuLoop (n : Nat) (s : State) : R s (ppuLoop n s) := by
  induction n generalizing s with
  | zero => exact hR.refl s
  | succ n ih =>
    unfold Machine.ppuLoop
    split
    · exact hR.trans (hR.ppuTransition s) (ih _)
    · exact hR.refl s

theorem ppuStep (s : State) : R s s.ppuStep := hR.ppuLoop _ s

theorem serviceInterrupt (s : State) (k : Nat) : LeadsTo R s (s.serviceInterrupt k) :=
  have hack := hR.trans (hR.setIf s (withBit s.ifReg k false)) (hR.cpu {})
  hR.seq (hR.after hack (hR.push _ _)) fun _ => hR.nextCpu {}

theorem interruptStep (s : State) : LeadsTo R s s.interruptStep :=
  have wake : CpuOnly s { s with halted := false } := {}
  .ite (hR.nextCpu {}) (.ite (hR.after (hR.cpu wake) (hR.serviceInterrupt _ _)) (hR.nextCpu wake))

theorem endIteration (s : State) : LeadsTo R s s.endIteration :=
  have units := hR.trans (hR.trans (hR.cpu {}) (hR.ppuStep { s with slot := 0 })) (hR.catchUp _)
  hR.after units (hR.interruptStep _)

theorem afterSlot (s : State) : LeadsTo R s s.afterSlot :=
  .ite (hR.nextCpu {}) (.ite (hR.endIteration s) (hR.nextCpu {}))

theorem idleAdvance (s : State) : R s s.idleAdvance := by
  unfold State.idleAdvance
  split
  · exact hR.cpu {}
  · exact hR.cpu {}

theorem atTop (s : State) : R s s.atTop := by
  have exitNearer : R s { s with exitIn := s.exitIn.map (· - 1) } := hR.cpu {}
  unfold State.atTop
  dsimp only
  split
  · split
    · exact hR.trans exitNearer (hR.inputRefresh _)
    · exact exitNearer
  · exact hR.refl s

theorem cpuSlot (s : State) : LeadsTo R s s.cpuSlot := by
  unfold State.cpuSlot
  split
  · split
    · exact hR.after (hR.idleAdvance s) (hR.endIteration _)
    · exact hR.endIteration s
  · exact hR.seq (hR.executeOne s) hR.afterSlot

/-- A relation that the elementary operations keep is kept by every step. -/
theorem step {s t : State} (h : step s = .next t) : R s t := by
  unfold Machine.step State.mainStep at h
  split at h
  · cases h
  · split at h
    · cases h
    · exact hR.after (hR.atTop s) (hR.cpuSlot _) t h

end KeptByOps

end Sys2Proof.Machine
end

section
/-! The statement of the scope: no step changes a byte of ROM, or a parameter. -/

namespace Sys2Proof.Machine

/-- `s` and `t` have the same ROM and the same parameters. -/
def SameCartridge (s t : State) : Prop := t.rom = s.rom ∧ t.cfg = s.cfg

/-- No elementary operation writes ROM or a parameter: a store below 0x8000 goes to the bank controller (R57), and every
other place that a store writes is RAM or the I/O page. -/
theorem sameCartridge_keptByOps : KeptByOps SameCartridge where
  trans h h' := ⟨h'.1.trans h.1, h'.2.trans h.2⟩
  cpu h := ⟨h.rom, h.cfg⟩
  store h := by
    rw [store_next h]
    exact ⟨rfl, rfl⟩
  catchUp s := by simp [SameCartridge]
  ppuTransition s := by simp [SameCartridge]
  inputRefresh s := ⟨rfl, rfl⟩
  setIf s v := ⟨rfl, rfl⟩

/-- Settles O18: the ROM and the parameters survive every elementary operation, and so every step. -/
theorem romNeverChanges : Obligations.RomNeverChanges :=
  fun _ _ h => sameCartridge_keptByOps.step h

end Sys2Proof.Machine
end

section
/-! What a byte store can do, case by case. -/

namespace Sys2Proof.Machine

/-- A byte store is a call of the bank controller, a special write, or a write of the byte that the address names (R56). -/
theorem store_cases {s t : State} {a : Word} {v : Byte} (h : s.store a v = .next t) :
    s.mbcWrite a v = .next t ∨ t = s.specialStore (loByte a) v ∨
      ((inIoPage a && specialWrite (loByte a)) = false ∧ t = s.writePlace (s.place a) v) := by
  unfold State.store at h
  split at h
  · exact .inl h
  · split at h
    · cases h
      exact .inr (.inl rfl)
    · next hp =>
      cases h
      exact .inr (.inr ⟨by simpa using hp, rfl⟩)

/-- What holds after each kind of special write holds after a special write (R66 to R72). -/
theorem specialStore_of_each {P : State → Prop} (s : State) (o v : Byte) (div : P s.writeDiv) (tima : P (s.writeTima v))
    (tma : P (s.writeTma v)) (tac : P (s.writeTac v)) (stat : P (s.writeStat v)) (ly : P s) (dma : P (s.writeDma v))
    (stored : o ≠ 0x41 → o ≠ 0x44 → P (s.setIo o.toNat v)) : P (s.specialStore o v) := by
  unfold State.specialStore
  split
  · exact div
  split
  · exact tima
  split
  · exact tma
  split
  · exact tac
  split
  · exact stat
  split
  · exact ly
  split
  · exact dma
  next h41 h44 _ => exact stored (by simpa using h41) (by simpa using h44)

/-- An address that names a byte of the I/O page is in page 0xFF, and its low byte is the offset (R48). -/
theorem ioPage_of_place {s : State} {a : Word} {off : Nat} (h : s.place a = .cell .io off) :
    inIoPage a = true ∧ (loByte a).toNat = off := by
  have ha := a.isLt
  have hn : 0xFF00 ≤ a.toNat ∧ off = a.toNat - 0xFF00 := by
    simp only [State.place] at h
    repeat' split at h
    all_goals simp only [reduceCtorEq, Place.cell.injEq, false_and, true_and] at h
    next hpage => exact ⟨Nat.le_of_not_lt hpage, h.symm⟩
  have hhi : hiByte a = 0xFF := by
    apply BitVec.eq_of_toNat_eq
    have h255 : (0xFF : Byte).toNat = 255 := rfl
    simp only [hiByte, BitVec.extractLsb'_toNat, Nat.shiftRight_eq_div_pow, h255]
    omega
  have hlo : (loByte a).toNat = off := by
    simp only [loByte, BitVec.extractLsb'_toNat, Nat.shiftRight_zero]
    omega
  exact ⟨by simp [inIoPage, hhi], hlo⟩

end Sys2Proof.Machine
end

section
/-! The invariants of the CPU, the clock and the banks, each as a relation that the elementary operations keep. -/

namespace Sys2Proof.Machine

/-- The relation of an invariant: what `P` says of the state before, it says of the state after. -/
def Keeps (P : State → Bool) (s t : State) : Prop := P s = true → P t = true

theorem Keeps.trans {P : State → Bool} {s t u : State} (h : Keeps P s t) (h' : Keeps P t u) : Keeps P s u := h' ∘ h

/-! ## The low nibble of F -/

/-- F[3:0] = 0 survives every elementary operation: what moves the CPU keeps or clears F[3:0], and nothing else writes F
(R24). -/
theorem flagsWf_keptByOps : KeptByOps (Keeps State.flagsWf) where
  trans := .trans
  cpu {s t} h hs := by
    have hf : s.f &&& 0x0F = 0 := by simpa [State.flagsWf] using hs
    have ht : t.f &&& 0x0F = 0 := h.lowF.elim (·.trans hf) id
    simpa [State.flagsWf] using ht
  store h hs := by
    rw [store_next h]
    exact hs
  catchUp s := by simp [Keeps, State.flagsWf]
  ppuTransition s := by simp [Keeps, State.flagsWf]
  inputRefresh s := id
  setIf s v := id

/-- Settles O13: the elementary operations keep F[3:0] = 0, and so does every step. -/
theorem flagsLowNibbleStaysZero : Obligations.FlagsLowNibbleStaysZero :=
  fun _ _ hs h => flagsWf_keptByOps.step h hs

/-! ## The clock and the timer's anchors -/

/-- Each anchor of the timer is in `t` where it is in `s`, or at the present of `s`. -/
def AnchorsKeptOrNow (s t : State) : Prop :=
  (t.divBase = s.divBase ∨ t.divBase = s.clocks) ∧ (t.timerBase = s.timerBase ∨ t.timerBase = s.clocks)

/-- Of the special writes those of DIV and TAC move an anchor, to the present (R221, R226). -/
theorem anchorsKeptOrNow_specialStore (s : State) (o v : Byte) : AnchorsKeptOrNow s (s.specialStore o v) := by
  refine specialStore_of_each s o v (P := AnchorsKeptOrNow s) (div := ?_) (tima := ?_) (tma := ?_) (tac := ?_)
    (stat := ?_) (ly := ⟨.inl rfl, .inl rfl⟩) (dma := ?_) (stored := fun _ _ => ⟨.inl rfl, .inl rfl⟩)
  · exact ⟨.inr rfl, by simp [State.writeDiv]⟩
  · simp [AnchorsKeptOrNow, State.writeTima]
  · simp [AnchorsKeptOrNow, State.writeTma]
  · exact ⟨by simp [State.writeTac], .inr rfl⟩
  · exact ⟨.inl rfl, .inl rfl⟩
  · simp [AnchorsKeptOrNow, State.writeDma]

/-- Of a byte store's cases only the special writes move an anchor (R56). -/
theorem anchorsKeptOrNow_store {s t : State} {a : Word} {v : Byte} (h : s.store a v = .next t) :
    AnchorsKeptOrNow s t := by
  obtain hm | rfl | ⟨-, rfl⟩ := store_cases h
  · rw [mbcWrite_next hm]
    exact ⟨.inl rfl, .inl rfl⟩
  · exact anchorsKeptOrNow_specialStore s _ v
  · simp [AnchorsKeptOrNow]

/-- From `s` to `t` time does not run back: `clocks` does not decrease, and no anchor of the timer comes to lie ahead of
it. -/
def Onward (s t : State) : Prop := s.clocks ≤ t.clocks ∧ (s.anchorsWf = true → t.anchorsWf = true)

/-- Time does not run back where each anchor is kept or moved to the present. -/
theorem Onward.of_anchors {s t : State} (hc : s.clocks ≤ t.clocks) (ha : AnchorsKeptOrNow s t) : Onward s t := by
  obtain ⟨hd, ht⟩ := ha
  refine ⟨hc, fun h => ?_⟩
  simp only [State.anchorsWf, Bool.and_eq_true, decide_eq_true_eq] at h ⊢
  omega

/-- Time does not run back in any elementary operation (R28, R40). -/
theorem onward_keptByOps : KeptByOps Onward where
  trans h h' := ⟨h.1.trans h'.1, h'.2 ∘ h.2⟩
  cpu h := .of_anchors h.clocks ⟨.inl h.divBase, .inl h.timerBase⟩
  store h := .of_anchors (by rw [store_next h]) (anchorsKeptOrNow_store h)
  catchUp s := .of_anchors (by simp) (by simp [AnchorsKeptOrNow])
  ppuTransition s := .of_anchors (by simp) (by simp [AnchorsKeptOrNow])
  inputRefresh s := .of_anchors le_rfl ⟨.inl rfl, .inl rfl⟩
  setIf s v := .of_anchors le_rfl ⟨.inl rfl, .inl rfl⟩

/-- Settles O14: the elementary operations do not turn time back, and so no step does. -/
theorem clocksNeverDecrease : Obligations.ClocksNeverDecrease :=
  fun _ _ h => onward_keptByOps.step h

/-! ## The banks -/

theorem keeps_banksWf_of_eq {s t : State} (hc : t.cfg = s.cfg) (hr : t.romBank = s.romBank)
    (hs : t.ramBank = s.ramBank) : Keeps State.banksWf s t := by
  simp [Keeps, State.banksWf, hc, hr, hs]

/-- A bank hook selects a bank of the cartridge, or is refused (R52, R53). -/
theorem keeps_banksWf_bankHook {s t : State} {k : BankHook} (h : s.bankHook k = .next t) : Keeps State.banksWf s t := by
  intro hs
  simp only [State.banksWf, Bool.and_eq_true, Bool.or_eq_true, decide_eq_true_eq] at hs ⊢
  obtain ⟨hrom, hram⟩ := hs
  cases k with
  | selectRomBank n =>
    simp only [State.bankHook] at h
    split at h <;> cases h
    next hn => exact ⟨hn, hram⟩
  | selectRamBank n =>
    simp only [State.bankHook] at h
    split at h
    · next h0 => cases h; exact ⟨hrom, .inl h0⟩
    · split at h <;> cases h
      next hn => exact ⟨hrom, .inr hn⟩

theorem keeps_banksWf_bankHooks {ks : List BankHook} {s t : State} (h : bankHooks ks s = .next t) :
    Keeps State.banksWf s t := by
  induction ks generalizing s with
  | nil => cases h; exact id
  | cons k ks ih =>
    obtain ⟨u, hu, ht⟩ := seq_eq_next.mp h
    exact (keeps_banksWf_bankHook hu).trans (ih ht)

/-- MBC_WRITE selects banks by its hooks only (R13). -/
theorem keeps_banksWf_mbcWrite {s t : State} {a : Word} {v : Byte} (h : s.mbcWrite a v = .next t) :
    Keeps State.banksWf s t := by
  unfold State.mbcWrite at h
  split at h
  · cases h; exact id
  · exact fun hs => keeps_banksWf_bankHooks h hs

/-- Of a byte store's cases only the bank controller's writes the banks (R41, R57). -/
theorem keeps_banksWf_store {s t : State} {a : Word} {v : Byte} (h : s.store a v = .next t) :
    Keeps State.banksWf s t := by
  obtain hm | rfl | ⟨-, rfl⟩ := store_cases h
  · exact keeps_banksWf_mbcWrite hm
  · rw [specialStore_eq]; exact id
  · exact keeps_banksWf_of_eq (by simp) (by simp) (by simp)

theorem banksWf_keptByOps : KeptByOps (Keeps State.banksWf) where
  trans := .trans
  cpu h := keeps_banksWf_of_eq h.cfg h.romBank h.ramBank
  store := keeps_banksWf_store
  catchUp s := keeps_banksWf_of_eq (by simp) (by simp) (by simp)
  ppuTransition s := keeps_banksWf_of_eq (by simp) (by simp) (by simp)
  inputRefresh s := id
  setIf s v := id

/-- Settles O15: the elementary operations keep the banks within the cartridge, and so does every step. -/
theorem banksStayInRange : Obligations.BanksStayInRange := fun _ _ hs h => banksWf_keptByOps.step h hs

end Sys2Proof.Machine
end

section
/-! The invariants of the PPU: only its own transitions write its state, LY and STAT[1:0]. -/

namespace Sys2Proof.Machine

/-! ## What the units leave of LY and STAT -/

/-- A call to the host writes no byte of the I/O page. -/
@[simp] theorem emit_ppuBytes (s : State) (ev : HostEvent) : (s.emit ev).ly = s.ly ∧ (s.emit ev).stat = s.stat :=
  ⟨rfl, rfl⟩

@[simp] theorem extendPpu_ppuBytes (s : State) (n : Nat) :
    (s.extendPpu n).ly = s.ly ∧ (s.extendPpu n).stat = s.stat := ⟨rfl, rfl⟩

@[simp] theorem inputRefresh_ppuBytes (s : State) : s.inputRefresh.ly = s.ly ∧ s.inputRefresh.stat = s.stat :=
  ⟨rfl, rfl⟩

@[simp] theorem raiseInterruptIf_ppuBytes (s : State) (p : Bool) (k : Nat) :
    (s.raiseInterruptIf p k).ly = s.ly ∧ (s.raiseInterruptIf p k).stat = s.stat := by
  simp [State.ly, State.stat, ioByte_raiseInterruptIf]

@[simp] theorem raiseInterrupt_ppuBytes (s : State) (k : Nat) :
    (s.raiseInterrupt k).ly = s.ly ∧ (s.raiseInterrupt k).stat = s.stat :=
  raiseInterruptIf_ppuBytes s true k

@[simp] theorem hblankCheck_ppuBytes (s : State) : s.hblankCheck.ly = s.ly ∧ s.hblankCheck.stat = s.stat := by
  simp [State.hblankCheck]

@[simp] theorem vblankInterrupts_ppuBytes (s : State) :
    s.vblankInterrupts.ly = s.ly ∧ s.vblankInterrupts.stat = s.stat := by
  simp [State.vblankInterrupts]

@[simp] theorem oamCheck_ppuBytes (s : State) (prev : Option Byte) :
    (s.oamCheck prev).ly = s.ly ∧ (s.oamCheck prev).stat = s.stat := by
  simp [State.oamCheck]

/-- The timer writes neither LY nor STAT (R222). -/
@[simp] theorem catchUp_ppuBytes (s : State) : s.catchUp.ly = s.ly ∧ s.catchUp.stat = s.stat :=
  ⟨ioByte_catchUp s 0x44 (by decide) (by decide), ioByte_catchUp s 0x41 (by decide) (by decide)⟩

@[simp] theorem enterPpu_ppu (s : State) (p : PpuState) (n : Nat) : (s.enterPpu p n).ppu = p := rfl

/-- Entering a PPU state keeps LY. -/
@[simp] theorem enterPpu_ly (s : State) (p : PpuState) (n : Nat) : (s.enterPpu p n).ly = s.ly :=
  ioByte_setIo s 0x41 0x44 _

theorem mode_and_three (p : PpuState) : p.mode &&& 3#8 = p.mode := by cases p <;> rfl

/-- Entering a PPU state puts its mode into STAT[1:0] (R229). -/
@[simp] theorem enterPpu_mode (s : State) (p : PpuState) (n : Nat) : (s.enterPpu p n).stat &&& 3#8 = p.mode := by
  have h : (s.enterPpu p n).stat = (s.stat &&& 0xFC) ||| p.mode := ioByte_setIo s 0x41 0x41 _
  rw [h]
  simp [BitVec.and_or_distrib_right, BitVec.and_assoc, mode_and_three]

/-- SetLY puts its argument into LY (R230). -/
@[simp] theorem setLy_ly (s : State) (v : Byte) : (s.setLy v).ly = v := by
  simp [State.setLy, State.ly, ioByte_raiseInterruptIf, ioByte_setIo]

/-- Writing bit 2 of a byte keeps bits 1:0. -/
theorem withBit_two_and_three (v : Byte) (b : Bool) : withBit v 2 b &&& 3#8 = v &&& 3#8 := by
  cases b
  · simp [withBit, BitVec.and_assoc]
  · simp [withBit, BitVec.and_or_distrib_right]

/-- SetLY writes of STAT the coincidence bit alone (R230). -/
@[simp] theorem setLy_mode (s : State) (v : Byte) : (s.setLy v).stat &&& 3#8 = s.stat &&& 3#8 := by
  have h : (s.setLy v).stat = withBit s.stat 2 (decide (v = s.lyc)) := by
    simp [State.setLy, State.stat, ioByte_raiseInterruptIf, ioByte_setIo]
  rw [h, withBit_two_and_three]

/-! ## The PPU's own state, which only its transitions write -/

/-- `s` and `t` have the same PPU state, LY and STAT[1:0]. -/
structure SamePpu (s t : State) : Prop where
  ppu : t.ppu = s.ppu := by simp
  ly : t.ly = s.ly := by simp
  mode : t.stat &&& 3#8 = s.stat &&& 3#8 := by simp

/-- The PPU's state is `ppu` and two bytes of the I/O page. -/
theorem SamePpu.of_io {s t : State} (hp : t.ppu = s.ppu) (hio : t.io = s.io) : SamePpu s t where
  ppu := hp
  ly := by simp [State.ly, State.ioByte, hio]
  mode := by simp [State.stat, State.ioByte, hio]

/-- A raw write of any other byte of the I/O page keeps the PPU's state. -/
theorem SamePpu.setIo (s : State) {o : Nat} (hl : o ≠ 0x44) (hs : o ≠ 0x41) (v : Byte) : SamePpu s (s.setIo o v) where
  ly := by simp [State.ly, ioByte_setIo, hl.symm]
  mode := by simp [State.stat, ioByte_setIo, hs.symm]

theorem SamePpu.trans {s t u : State} (h : SamePpu s t) (h' : SamePpu t u) : SamePpu s u :=
  ⟨h'.ppu.trans h.ppu, h'.ly.trans h.ly, h'.mode.trans h.mode⟩

theorem SamePpu.catchUp (s : State) : SamePpu s s.catchUp := {}

/-- A store to STAT keeps bits 2:0 (R69). -/
theorem SamePpu.writeStat (s : State) (v : Byte) : SamePpu s (s.writeStat v) where
  ppu := rfl
  ly := ioByte_setIo s 0x41 0x44 _
  mode := by
    have h : (s.writeStat v).stat = (v &&& 0xF8) ||| (s.stat &&& 0x07) := ioByte_setIo s 0x41 0x41 _
    rw [h]
    simp [BitVec.and_or_distrib_right, BitVec.and_assoc]

/-- Of the special writes that store in the I/O page only STAT's and LY's name a byte of the PPU's state. -/
theorem SamePpu.specialStore (s : State) (o v : Byte) : SamePpu s (s.specialStore o v) := by
  have later {o : Nat} (hl : o ≠ 0x44) (hs : o ≠ 0x41) (w : Byte) : SamePpu s (s.catchUp.setIo o w) :=
    (SamePpu.catchUp s).trans (.setIo _ hl hs w)
  refine specialStore_of_each s o v (P := SamePpu s) (div := ?_) (tima := ?_) (tma := ?_) (tac := ?_)
    (stat := .writeStat s v) (ly := {}) (dma := ?_) (stored := fun h41 h44 => ?_)
  · exact (SamePpu.catchUp s).trans (.of_io rfl rfl)
  · exact later (by decide) (by decide) v
  · exact later (by decide) (by decide) v
  · exact (later (by decide) (by decide) v).trans (.of_io rfl rfl)
  · exact (SamePpu.setIo s (o := 0x46) (by decide) (by decide) v).trans
      (.of_io (by simp [State.writeDma]) (by simp [State.writeDma]))
  · exact .setIo s (fun h => h44 (BitVec.eq_of_toNat_eq h)) (fun h => h41 (BitVec.eq_of_toNat_eq h)) v

/-- No store moves the PPU (R69, R70). -/
theorem SamePpu.store {s t : State} {a : Word} {v : Byte} (h : s.store a v = .next t) : SamePpu s t := by
  obtain hm | rfl | ⟨hplain, rfl⟩ := store_cases h
  · rw [mbcWrite_next hm]; exact .of_io rfl rfl
  · exact .specialStore s _ v
  · cases hp : s.place a with
    | disabled => exact .of_io rfl rfl
    | cell b off =>
      by_cases hb : b = .io
      · subst hb
        obtain ⟨hpage, rfl⟩ := ioPage_of_place hp
        have hsp : specialWrite (loByte a) = false := by simpa [hpage] using hplain
        refine .setIo s (fun h => ?_) (fun h => ?_) v
        · rw [show loByte a = 0x44 from BitVec.eq_of_toNat_eq h] at hsp
          cases hsp
        · rw [show loByte a = 0x41 from BitVec.eq_of_toNat_eq h] at hsp
          cases hsp
      · have hio := buffer_setBuffer s b .io (Memory.write b (s.buffer b) off v)
        rw [if_neg (Ne.symm hb)] at hio
        exact .of_io (by simp) hio

/-- An invariant of the PPU's own state holds through every step if the transitions of the PPU keep it. -/
theorem keptByOps_of_samePpu {P : State → Bool} (hsame : ∀ {s t}, SamePpu s t → Keeps P s t)
    (htrans : ∀ s, Keeps P s s.ppuTransition) : KeptByOps (Keeps P) where
  trans := .trans
  cpu h := hsame (.of_io h.ppu h.io)
  store h := hsame (.store h)
  catchUp s := hsame (.catchUp s)
  ppuTransition := htrans
  inputRefresh s := hsame {}
  setIf s v := hsame (.setIo s (by decide) (by decide) v)

/-! ## The mode in STAT[1:0] -/

theorem modeWf_iff (s : State) : s.modeWf = true ↔ s.stat &&& 3#8 = s.ppu.mode := by simp [State.modeWf]

theorem keeps_modeWf_of_samePpu {s t : State} (h : SamePpu s t) : Keeps State.modeWf s t := by
  simp [Keeps, State.modeWf, h.mode, h.ppu]

/-- Every transition that enters a state writes its mode, and the others keep both (R229). -/
theorem keeps_modeWf_ppuTransition (s : State) : Keeps State.modeWf s s.ppuTransition := by
  rw [Keeps, modeWf_iff, modeWf_iff]
  intro hs
  unfold State.ppuTransition
  split
  · simp [State.oamDeadline]
  · simp [State.vramDeadline]
  · unfold State.hblankDeadline
    dsimp only
    split
    · simp
    · simp
  · unfold State.vblankDeadline
    split
    · split
      · simp
      · simp [State.enterLcdOff]
    split
    · simpa using hs
    split
    · simpa using hs
    · simpa using hs
  · unfold State.lcdOffDeadline
    dsimp only
    split
    · simp
    · simpa using hs

/-- Settles O16: stores keep STAT[1:0] and the PPU's state (R69), and the transitions write them together. -/
theorem modeBitsFollowThePpu : Obligations.ModeBitsFollowThePpu :=
  fun _ _ hs h => (keptByOps_of_samePpu keeps_modeWf_of_samePpu keeps_modeWf_ppuTransition).step h hs

/-! ## The line in LY -/

theorem keeps_lineWf_of_samePpu {s t : State} (h : SamePpu s t) : Keeps State.lineWf s t := by
  simp [Keeps, State.lineWf, h.ly, h.ppu]

/-- At the end of an H-blank the next line is visible or the first of V-blank (R236). -/
theorem keeps_lineWf_hblankDeadline {s : State} (hp : s.ppu = .hblank) : Keeps State.lineWf s s.hblankDeadline := by
  intro hs
  have hly : s.ly.toNat < 144 := by simpa [State.lineWf, hp] using hs
  unfold State.hblankDeadline
  dsimp only
  split
  · next h144 =>
    rw [h144]
    simp [State.lineWf]
  · next h144 =>
    have hne : (s.ly + 1#8).toNat ≠ 144 := fun h => h144 (BitVec.eq_of_toNat_eq h)
    have hvisible : (s.ly + 1#8).toNat < 144 := by bv_omega
    simpa [State.lineWf] using hvisible

/-- V-blank goes through lines 144 to 153 and the tail of line 0 (R237). -/
theorem keeps_lineWf_vblankDeadline {s : State} (hp : s.ppu = .vblank) : Keeps State.lineWf s s.vblankDeadline := by
  intro hs
  have hline : s.ly.toNat = 0 ∨ 144 ≤ s.ly.toNat ∧ s.ly.toNat ≤ 153 := by simpa [State.lineWf, hp] using hs
  unfold State.vblankDeadline
  split
  · next h0 =>
    split
    · simp [State.lineWf, h0]
    · simp [State.lineWf, State.enterLcdOff, h0]
  split
  · simp [State.lineWf, hp]
  split
  · simp [State.lineWf, hp]
  · next h0 _ h153 =>
    have hne : s.ly.toNat ≠ 0 ∧ s.ly.toNat ≠ 153 :=
      ⟨fun h => h0 (BitVec.eq_of_toNat_eq h), fun h => h153 (BitVec.eq_of_toNat_eq h)⟩
    have hnext : 144 ≤ (s.ly + 1#8).toNat ∧ (s.ly + 1#8).toNat ≤ 153 := by bv_omega
    simpa [State.lineWf, hp] using Or.inr hnext

/-- With the display off LY stays 0, and OAM scan begins with line 0 (R238). -/
theorem keeps_lineWf_lcdOffDeadline {s : State} (hp : s.ppu = .lcdOff) : Keeps State.lineWf s s.lcdOffDeadline := by
  intro hs
  have hly : s.ly.toNat = 0 := by simpa [State.lineWf, hp] using hs
  unfold State.lcdOffDeadline
  dsimp only
  split
  · simp [State.lineWf]
  · simp [State.lineWf, hp, hly]

theorem keeps_lineWf_ppuTransition (s : State) : Keeps State.lineWf s s.ppuTransition := by
  unfold State.ppuTransition
  split
  · next hp => simp [Keeps, State.lineWf, State.oamDeadline, hp]
  · next hp => simp [Keeps, State.lineWf, State.vramDeadline, hp]
  · next hp => exact keeps_lineWf_hblankDeadline hp
  · next hp => exact keeps_lineWf_vblankDeadline hp
  · next hp => exact keeps_lineWf_lcdOffDeadline hp

/-- Settles O17: stores keep LY and the PPU's state (R70), and each transition takes LY into the range of the state it
enters. -/
theorem lineStaysInRange : Obligations.LineStaysInRange :=
  fun _ _ hs h => (keptByOps_of_samePpu keeps_lineWf_of_samePpu keeps_lineWf_ppuTransition).step h hs

end Sys2Proof.Machine
end

section
/-! The state after reset. -/

namespace Sys2Proof.Machine

/-- Where no pair names the offset, the byte is the unlisted one; the list need not be canonical. -/
theorem Memory.read_of_forall_ne {b : Buffer} {m : Memory} {off : Nat} (h : ∀ c ∈ m, c.1 ≠ off) :
    Memory.read b m off = unlisted b off := by
  induction m with
  | nil => rfl
  | cons kv m ih =>
    obtain ⟨hk, hm⟩ := List.forall_mem_cons.mp h
    simp [Memory.read, hk.symm, ih hm]

/-- INIT_MEM reaches only high RAM of the I/O page (R16, R35). -/
theorem read_filter_inHighRam (m : Memory) {off : Nat} (h : off < 0x80 ∨ 0xFE < off) :
    Memory.read .io (m.filter inHighRam) off = ioReset off := by
  refine Memory.read_of_forall_ne fun c hc => ?_
  have hhigh : 0x80 ≤ c.1 ∧ c.1 ≤ 0xFE := by simpa [inHighRam] using (List.mem_filter.mp hc).2
  omega

/-- The register pairs after reset (R44). -/
theorem resetWith_pairs (cfg : Config) (rom vram sram wram oam io : Memory) :
    let s := State.resetWith cfg rom vram sram wram oam io
    s.af = 0x01B0 ∧ s.bc = 0x0013 ∧ s.de = 0x00D8 ∧ s.hl = 0x014D := by
  simp [State.resetWith, State.af, State.bc, State.de, State.hl, word]

/-- Settles O20: the fields are written out in `resetWith`, and the I/O bytes outside high RAM are unlisted, whatever
INIT_MEM lists. -/
theorem resetValues : Obligations.ResetValues := by
  intro batch rule cart mem hfits
  obtain ⟨haf, hbc, hde, hhl⟩ := resetWith_pairs
    { batch := batch, romBanks := cart.romBanks, ramBanks := cart.ramBanks, daaCarryRule := rule,
      mbcRules := cart.mbcRules }
    (bytesFrom .rom 0 cart.image) mem.vram mem.sram mem.wram mem.oam (mem.hram.filter inHighRam)
  have ioLow (o : Nat) (h : o < 0x80) := read_filter_inHighRam mem.hram (.inl h)
  refine ⟨_, if_pos hfits, haf, hbc, hde, hhl, ?_⟩
  refine ⟨rfl, rfl, rfl, rfl, rfl, rfl, rfl, rfl, rfl, rfl, rfl, rfl, rfl, rfl, rfl, rfl, ?_⟩
  exact ⟨ioLow 0x00 (by decide), ioLow 0x05 (by decide), ioLow 0x06 (by decide), ioLow 0x07 (by decide),
    ioLow 0x0F (by decide), ioLow 0x40 (by decide), ioLow 0x41 (by decide), ioLow 0x44 (by decide),
    ioLow 0x45 (by decide), read_filter_inHighRam mem.hram (off := 0xFF) (.inr (by decide)), ioLow⟩

/-- Settles O19: one closed fact for each invariant. -/
theorem resetHasTheInvariants : Obligations.ResetHasTheInvariants :=
  ⟨memWf_reset, by decide, by decide, by decide, by decide, by decide, by decide⟩

end Sys2Proof.Machine
end

section
/-! Which instructions write the latches. -/

namespace Sys2Proof.Machine

/-- `Decoded` has every instruction but `prefix_cb`: one with an operand is a case as it stands, and every other one is what
the decoder answers for its own bytes. -/
theorem decoded_of_ne_prefix_cb {i : Instr} (h : ∀ op2, i ≠ .prefix_cb op2) : Decoded i := by
  have hd := decoded_decodeBytes ((encode i).getD 0 0) ((encode i).getD 1 0) 0
  cases i
  case prefix_cb op2 => exact absurd rfl (h op2)
  case ld_bc_nn nn => exact .ldPairImm nn .bc
  case ld_de_nn nn => exact .ldPairImm nn .de
  case ld_hl_nn nn => exact .ldPairImm nn .hl
  case ld_sp_nn nn => exact .ldPairImm nn .sp
  case ld_mnn_sp nn => exact .ld_mnn_sp nn
  case ld_mnn_a nn => exact .ld_mnn_a nn
  case ld_a_mnn nn => exact .ld_a_mnn nn
  case ld_b_n n => exact .ldRegImm n .b
  case ld_c_n n => exact .ldRegImm n .c
  case ld_d_n n => exact .ldRegImm n .d
  case ld_e_n n => exact .ldRegImm n .e
  case ld_h_n n => exact .ldRegImm n .h
  case ld_l_n n => exact .ldRegImm n .l
  case ld_a_n n => exact .ldRegImm n .a
  case ld_mhl_n n => exact .ld_mhl_n n
  case ldh_mn_a n => exact .ldh_mn_a n
  case ldh_a_mn n => exact .ldh_a_mn n
  case ld_hl_spe e => exact .ld_hl_spe e
  case add_sp_e e => exact .add_sp_e e
  case add_a_n n => exact .aluImm n .add
  case adc_a_n n => exact .aluImm n .adc
  case sub_n n => exact .aluImm n .sub
  case sbc_a_n n => exact .aluImm n .sbc
  case and_n n => exact .aluImm n .and
  case xor_n n => exact .aluImm n .xor
  case or_n n => exact .aluImm n .or
  case cp_n n => exact .aluImm n .cp
  case stop n => exact .stop n
  case jr_e e => exact .jr_e e
  case jr_nz_e e => exact .jrIf e .nz
  case jr_z_e e => exact .jrIf e .z
  case jr_nc_e e => exact .jrIf e .nc
  case jr_c_e e => exact .jrIf e .c
  case jp_nn nn => exact .jp_nn nn
  case jp_nz_nn nn => exact .jpIf nn .nz
  case jp_z_nn nn => exact .jpIf nn .z
  case jp_nc_nn nn => exact .jpIf nn .nc
  case jp_c_nn nn => exact .jpIf nn .c
  case call_nn nn => exact .call_nn nn
  case call_nz_nn nn => exact .callIf nn .nz
  case call_z_nn nn => exact .callIf nn .z
  case call_nc_nn nn => exact .callIf nn .nc
  case call_c_nn nn => exact .callIf nn .c
  all_goals exact hd

/-- A return keeps the latches (R194). -/
@[simp] theorem returnToCaller_latches (s : State) :
    s.returnToCaller.fault = s.fault ∧ s.returnToCaller.ime = s.ime ∧ s.returnToCaller.halted = s.halted ∧
      s.returnToCaller.haltBug = s.haltBug ∧ s.returnToCaller.stopped = s.stopped := by
  simp [State.returnToCaller]

/-- The return from an interrupt keeps the latches but IME (R196). -/
@[simp] theorem returnFromInterrupt_latches (s : State) :
    s.returnFromInterrupt.fault = s.fault ∧ s.returnFromInterrupt.halted = s.halted ∧
      s.returnFromInterrupt.haltBug = s.haltBug ∧ s.returnFromInterrupt.stopped = s.stopped := by
  simp [State.returnFromInterrupt]

/-- From `s` to `t` no latch changes: the fault, IME, HALT, the halt bug and STOP (R29 to R32, R43). The laws of `State`
give simp every field, so that `{}` proves it of an update written out. -/
structure LatchesKept (s t : State) : Prop where
  fault : t.fault = s.fault := by simp
  ime : t.ime = s.ime := by simp
  halted : t.halted = s.halted := by simp
  haltBug : t.haltBug = s.haltBug := by simp
  stopped : t.stopped = s.stopped := by simp

namespace LatchesKept

theorem trans {s t u : State} (h : LatchesKept s t) (h' : LatchesKept t u) : LatchesKept s u :=
  ⟨h'.fault.trans h.fault, h'.ime.trans h.ime, h'.halted.trans h.halted, h'.haltBug.trans h.haltBug,
    h'.stopped.trans h.stopped⟩

/-- Operations that keep the latches, one after the other, the first on a state `u` with the latches of `s`. -/
theorem seq {s u : State} {r : Result} {k : State → Result} (h : LatchesKept s u) (hr : LeadsTo LatchesKept u r)
    (hk : ∀ m, LeadsTo LatchesKept m (k m)) : LeadsTo LatchesKept s (seq r k) := by
  intro t ht
  obtain ⟨m, hm, ht⟩ := seq_eq_next.mp ht
  exact (h.trans (hr m hm)).trans (hk m t ht)

theorem store (s : State) (a : Word) (v : Byte) : LeadsTo LatchesKept s (s.store a v) := by
  intro t h
  rw [store_next h]
  exact {}

theorem storeThen (s : State) (a : Word) (v : Byte) (n : Nat) : LeadsTo LatchesKept s (s.storeThen a v n) :=
  seq {} (store s a v) fun _ => .next {}

theorem storeAndMove (hl : Word) (s : State) : LeadsTo LatchesKept s (storeAndMove hl s) :=
  seq {} (store s _ _) fun _ => .next {}

theorem storeWord (s : State) (a v : Word) : LeadsTo LatchesKept s (s.storeWord a v) :=
  seq {} (store s _ _) fun m => store m _ _

theorem push (s : State) (v : Word) : LeadsTo LatchesKept s (s.push v) := by
  rw [push_eq]
  exact seq {} (store s _ _) fun m => seq {} (store m _ _) fun _ => .next {}

theorem call (target : Word) (n : Nat) (s : State) : LeadsTo LatchesKept s (call target n s) :=
  seq {} (push s _) fun _ => .next {}

theorem replaceAtHl (s : State) (o : AluOut) (n : Nat) : LeadsTo LatchesKept s (s.replaceAtHl o n) :=
  seq {} (store (s.afterLoad s.hl) _ _) fun _ => .next {}

theorem writeBitMem (v : Bool) (k : Nat) (s : State) : LeadsTo LatchesKept s (writeBitMem v k s) :=
  seq {} (store (s.afterLoad s.hl) _ _) fun _ => .next {}

theorem jumpIf (cc : Cond) (target : Word) (n m : Nat) (s : State) : LeadsTo LatchesKept s (jumpIf cc target n m s) :=
  .ite (.next {}) (.next {})

/-- No row of the second table writes a latch (R88). -/
theorem cbRow (op2 : Byte) (s : State) : LeadsTo LatchesKept s (cbRow op2 s) := by
  unfold Machine.cbRow
  dsimp only
  split
  · exact .next {}
  · exact replaceAtHl s _ _
  · exact .next {}
  · exact .next {}
  · exact .next {}
  · exact writeBitMem _ _ s
  · exact .next {}
  · exact writeBitMem _ _ s

end LatchesKept

/-- From `s` to `t` the fault is kept, and another latch changes only if `i` is an instruction named for it: EI, DI and
RETI for IME, HALT for `halted` and the halt bug, STOP for `stopped` (R208). -/
structure LatchesBy (i : Instr) (s t : State) : Prop where
  fault : t.fault = s.fault := by simp
  ime : i ≠ .ei → i ≠ .di → i ≠ .reti → t.ime = s.ime := by simp
  halt : i ≠ .halt → t.halted = s.halted ∧ t.haltBug = s.haltBug := by simp
  stop : (∀ n, i ≠ .stop n) → t.stopped = s.stopped := by simp

theorem LeadsTo.latchesBy {s : State} {r : Result} (h : LeadsTo LatchesKept s r) (i : Instr) :
    LeadsTo (LatchesBy i) s r := fun t ht =>
  have hk := h t ht
  ⟨hk.fault, fun _ _ _ => hk.ime, fun _ => ⟨hk.halted, hk.haltBug⟩, fun _ => hk.stopped⟩

/-- Row by row: the instructions that store keep the latches by the law of the byte store, and every other one is an
update written out. -/
theorem latchesBy_exec_of_decoded {i : Instr} (h : Decoded i) (hi : i ∉ illegalRows.map Prod.snd) (s : State) :
    LeadsTo (LatchesBy i) s (exec i s) := by
  cases h with
  | nop => exact .next {}
  | stop n => exact .next {}
  | halt => exact .next {}
  | di => exact .next {}
  | ei => exact .next {}
  | reti => exact .next {}
  | illegal h => exact absurd (List.mem_map_of_mem h) hi
  | ldRegReg dst r => rw [exec_ldRegReg]; exact .next {}
  | ldRegImm n r => rw [exec_ldRegImm]; exact .next {}
  | ldRegMem r => rw [exec_ldRegMem]; exact .next {}
  | ldMemReg r => rw [exec_ldMemReg]; exact .latchesBy (.storeThen s _ _ _) _
  | ld_mhl_n n => exact .latchesBy (.storeThen s _ _ _) _
  | ld_mbc_a => exact .latchesBy (.storeThen s _ _ _) _
  | ld_a_mbc => exact .next {}
  | ld_mde_a => exact .latchesBy (.storeThen s _ _ _) _
  | ld_a_mde => exact .next {}
  | ld_mhli_a => exact .latchesBy (.storeAndMove _ s) _
  | ld_a_mhli => exact .next {}
  | ld_mhld_a => exact .latchesBy (.storeAndMove _ s) _
  | ld_a_mhld => exact .next {}
  | ldh_mn_a n => exact .latchesBy (.storeThen s _ _ _) _
  | ldh_a_mn n => exact .next {}
  | ld_mc_a => exact .latchesBy (.storeThen s _ _ _) _
  | ld_a_mc => exact .next {}
  | ld_mnn_a nn => exact .latchesBy (.storeThen s _ _ _) _
  | ld_a_mnn nn => exact .next {}
  | ldPairImm nn r => rw [exec_ldPairImm]; exact .next {}
  | ld_mnn_sp nn => exact .latchesBy (.seq {} (.storeWord s _ _) fun _ => .next {}) _
  | ld_sp_hl => exact .next {}
  | ld_hl_spe e => exact .next {}
  | push q => rw [exec_push]; exact .latchesBy (.seq {} (.push s _) fun _ => .next {}) _
  | pop q => rw [exec_pop]; exact .next {}
  | aluReg op r => rw [exec_aluReg]; exact .next {}
  | aluMem op => rw [exec_aluMem]; exact .next {}
  | aluImm n op => rw [exec_aluImm]; exact .next {}
  | incReg r => rw [exec_incReg]; exact .next {}
  | decReg r => rw [exec_decReg]; exact .next {}
  | inc_mhl => exact .latchesBy (.replaceAtHl s _ _) _
  | dec_mhl => exact .latchesBy (.replaceAtHl s _ _) _
  | daa => exact .next {}
  | cpl => exact .next {}
  | scf => exact .next {}
  | ccf => exact .next {}
  | incPair r => rw [exec_incPair]; exact .next {}
  | decPair r => rw [exec_decPair]; exact .next {}
  | addHl r => rw [exec_addHl]; exact .next {}
  | add_sp_e e => exact .next {}
  | rlca => exact .next {}
  | rrca => exact .next {}
  | rla => exact .next {}
  | rra => exact .next {}
  | shiftReg op r => rw [exec_shiftReg]; exact .next {}
  | shiftMem op => rw [exec_shiftMem]; exact .latchesBy (.replaceAtHl s _ _) _
  | bitReg k r => rw [exec_bitReg]; exact .next {}
  | bitMem k => rw [exec_bitMem]; exact .next {}
  | resReg k r => rw [exec_resReg]; exact .next {}
  | resMem k => rw [exec_resMem]; exact .latchesBy (.writeBitMem _ _ s) _
  | setReg k r => rw [exec_setReg]; exact .next {}
  | setMem k => rw [exec_setMem]; exact .latchesBy (.writeBitMem _ _ s) _
  | jr_e e => exact .next {}
  | jrIf e cc => rw [exec_jrIf]; exact .latchesBy (.jumpIf _ _ _ _ s) _
  | jp_nn nn => exact .next {}
  | jpIf nn cc => rw [exec_jpIf]; exact .latchesBy (.jumpIf _ _ _ _ s) _
  | jp_hl => exact .next {}
  | call_nn nn => exact .latchesBy (.call _ _ s) _
  | callIf nn cc => rw [exec_callIf]; exact .latchesBy (.ite (.call _ _ s) (.next {})) _
  | ret => exact .next {}
  | retIf cc => rw [exec_retIf]; exact .ite (.next {}) (.next {})
  | rst t => rw [exec_rst]; exact .latchesBy (.call _ _ s) _

theorem latchesBy_exec {i : Instr} (hi : i ∉ illegalRows.map Prod.snd) (s : State) :
    LeadsTo (LatchesBy i) s (exec i s) := by
  by_cases hp : ∃ op2, i = .prefix_cb op2
  · obtain ⟨op2, rfl⟩ := hp
    exact .latchesBy (.cbRow op2 s) _
  · exact latchesBy_exec_of_decoded (decoded_of_ne_prefix_cb (not_exists.mp hp)) hi s

/-- Settles O21: an undefined opcode writes the fault alone, and every other instruction writes at most the latch it is
named for. -/
theorem latchesHaveTheirInstructions : Obligations.LatchesHaveTheirInstructions := by
  intro i s t h
  by_cases hi : i ∈ illegalRows.map Prod.snd
  · obtain ⟨row, hrow, rfl⟩ := List.mem_map.mp hi
    rw [exec_illegal hrow] at h
    cases h
    exact ⟨.inr ⟨row, hrow, rfl, rfl⟩, fun _ _ _ => rfl, fun _ => ⟨rfl, rfl⟩, fun _ => rfl⟩
  · obtain ⟨hfault, hime, hhalt, hstop⟩ := latchesBy_exec hi s t h
    exact ⟨.inl ⟨hfault, hi⟩, hime, hhalt, hstop⟩

end Sys2Proof.Machine
end

section
/-! The invariant of the memory: every buffer stays in its canonical form. -/

namespace Sys2Proof.Machine

/-- Canonical buffers survive every elementary operation: what moves the CPU writes no buffer, and every other operation
writes its bytes by `Memory.write`, which keeps the form. -/
theorem memWf_keptByOps : KeptByOps (Keeps State.memWf) where
  trans := .trans
  cpu {s t} h hs := by
    have hbuf : ∀ b, t.buffer b = s.buffer b := by
      rintro (_ | _ | _ | _ | _ | _)
      exacts [h.rom, h.vram, h.sram, h.wram, h.oam, h.io]
    exact (memWf_congr hbuf).trans hs
  store := memWf_store
  catchUp _ := memWf_catchUp
  ppuTransition _ := memWf_ppuTransition
  inputRefresh _ := id
  setIf _ v := memWf_setIo 0x0F v

/-- Settles O12: the elementary operations keep every buffer canonical, and so does every step. -/
theorem memoryStaysCanonical : Obligations.MemoryStaysCanonical := fun _ _ hs h => memWf_keptByOps.step h hs

end Sys2Proof.Machine
end

section
/-! Progress: with the parameters as the spec requires them, every operation answers a next state. -/

namespace Sys2Proof.Machine

/-- `r` is a next state, no fault and no refusal. -/
def Answers (r : Result) : Prop := ∃ t, r = .next t

namespace Answers

theorem next (s : State) : Answers (.next s) := ⟨s, rfl⟩

theorem seq {r : Result} {k : State → Result} (hr : Answers r) (hk : ∀ u, r = .next u → Answers (k u)) :
    Answers (seq r k) := by
  obtain ⟨u, hu⟩ := hr
  obtain ⟨t, ht⟩ := hk u hu
  exact ⟨t, seq_eq_next.mpr ⟨u, hu, ht⟩⟩

/-- After an operation that answers, an update of the state answers. -/
theorem andThen {r : Result} (hr : Answers r) (g : State → State) : Answers (Machine.seq r fun u => .next (g u)) :=
  hr.seq fun u _ => next (g u)

theorem ite {p : Prop} [Decidable p] {r r' : Result} (h : Answers r) (h' : Answers r') :
    Answers (if p then r else r') := by
  split <;> assumption

/-! ## The instructions -/

theorem store {s : State} (h : s.cfg.wf = true) (a : Word) (v : Byte) : Answers (s.store a v) := store_total h a v

/-- A store at HL after a read there, which keeps the parameters. -/
theorem storeAfterLoad {s : State} (h : s.cfg.wf = true) (a : Word) (v : Byte) : Answers ((s.afterLoad a).store a v) :=
  store (by simpa using h) a v

theorem storeWord {s : State} (h : s.cfg.wf = true) (a v : Word) : Answers (s.storeWord a v) :=
  (store h _ _).seq fun u hu => store (by rwa [store_cfg hu]) _ _

theorem call {s : State} (h : s.cfg.wf = true) (target : Word) (n : Nat) : Answers (call target n s) :=
  andThen (push_total h _) _

theorem jumpIf (cc : Cond) (target : Word) (n m : Nat) (s : State) : Answers (jumpIf cc target n m s) :=
  ite (next _) (next _)

/-- Every instruction that the decoder answers completes: those that store by the totality of the store, the others
because they are an update of the state (R208). -/
theorem exec {i : Instr} (hi : Decoded i) {s : State} (h : s.cfg.wf = true) : Answers (exec i s) := by
  cases hi with
  | illegal hrow => rw [exec_illegal hrow]; exact next _
  | ldRegReg dst r => rw [exec_ldRegReg]; exact next _
  | ldRegImm n r => rw [exec_ldRegImm]; exact next _
  | ldRegMem r => rw [exec_ldRegMem]; exact next _
  | ldMemReg r => rw [exec_ldMemReg]; exact andThen (store h _ _) _
  | ld_mhl_n n => exact andThen (store h _ _) _
  | ld_mbc_a => exact andThen (store h _ _) _
  | ld_mde_a => exact andThen (store h _ _) _
  | ld_mhli_a => exact andThen (store h _ _) _
  | ld_mhld_a => exact andThen (store h _ _) _
  | ldh_mn_a n => exact andThen (store h _ _) _
  | ld_mc_a => exact andThen (store h _ _) _
  | ld_mnn_a nn => exact andThen (store h _ _) _
  | ld_mnn_sp nn => exact andThen (storeWord h _ _) _
  | ldPairImm nn r => rw [exec_ldPairImm]; exact next _
  | push q => rw [exec_push]; exact andThen (push_total h _) _
  | pop q => rw [exec_pop]; exact next _
  | aluReg op r => rw [exec_aluReg]; exact next _
  | aluMem op => rw [exec_aluMem]; exact next _
  | aluImm n op => rw [exec_aluImm]; exact next _
  | incReg r => rw [exec_incReg]; exact next _
  | decReg r => rw [exec_decReg]; exact next _
  | inc_mhl => exact andThen (storeAfterLoad h _ _) _
  | dec_mhl => exact andThen (storeAfterLoad h _ _) _
  | incPair r => rw [exec_incPair]; exact next _
  | decPair r => rw [exec_decPair]; exact next _
  | addHl r => rw [exec_addHl]; exact next _
  | shiftReg op r => rw [exec_shiftReg]; exact next _
  | shiftMem op => rw [exec_shiftMem]; exact andThen (storeAfterLoad h _ _) _
  | bitReg k r => rw [exec_bitReg]; exact next _
  | bitMem k => rw [exec_bitMem]; exact next _
  | resReg k r => rw [exec_resReg]; exact next _
  | resMem k => rw [exec_resMem]; exact andThen (storeAfterLoad h _ _) _
  | setReg k r => rw [exec_setReg]; exact next _
  | setMem k => rw [exec_setMem]; exact andThen (storeAfterLoad h _ _) _
  | jrIf e cc => rw [exec_jrIf]; exact jumpIf _ _ _ _ s
  | jpIf nn cc => rw [exec_jpIf]; exact jumpIf _ _ _ _ s
  | call_nn nn => exact call h _ _
  | callIf nn cc => rw [exec_callIf]; exact ite (call h _ _) (next _)
  | retIf cc => rw [exec_retIf]; exact ite (next _) (next _)
  | rst t => rw [exec_rst]; exact call h _ _
  | _ => exact next _

/-! ## The main loop -/

theorem executeOne {s : State} (h : s.cfg.wf = true) : Answers s.executeOne :=
  exec (decoded_decodeBytes _ _ _) (by simpa using h)

theorem serviceInterrupt {s : State} (h : s.cfg.wf = true) (k : Nat) : Answers (s.serviceInterrupt k) := by
  unfold State.serviceInterrupt
  exact andThen (push_total (by simpa using h) _) _

theorem interruptStep {s : State} (h : s.cfg.wf = true) : Answers s.interruptStep :=
  ite (next _) (ite (serviceInterrupt (s := { s with halted := false }) h _) (next _))

theorem endIteration {s : State} (h : s.cfg.wf = true) : Answers s.endIteration :=
  interruptStep (by simpa [State.timerStep] using h)

theorem afterSlot {s : State} (h : s.cfg.wf = true) : Answers s.afterSlot :=
  ite (next _) (ite (endIteration h) (next _))

theorem cpuSlot {s : State} (h : s.cfg.wf = true) : Answers s.cpuSlot := by
  unfold State.cpuSlot
  split
  · apply endIteration
    split
    · rwa [(sameCartridge_keptByOps.idleAdvance s).2]
    · exact h
  · exact (executeOne h).seq fun u hu => afterSlot (by rwa [(sameCartridge_keptByOps.executeOne s u hu).2])

end Answers

/-- Settles O10: past the two stops, of the exit request and of a recorded fault, a step is one slot of the CPU, and that
answers a next state. -/
theorem machineNeverStuck : Obligations.MachineNeverStuck := by
  intro s h hexit hfault
  have hrun : ¬ (s.slot = 0 ∧ s.exitIn = some 0) := by simpa [State.exitDue] using hexit
  have hstep : step s = s.atTop.cpuSlot := by rw [step, State.mainStep, if_neg hrun, hfault]
  rw [hstep]
  exact Answers.cpuSlot (by rwa [(sameCartridge_keptByOps.atTop s).2])

end Sys2Proof.Machine
end

section
/-! Addresses and the places they name, and the bus where an access has no handler (20_memory R48, R54, R64, R73). -/

namespace Sys2Proof.Machine

/-! ## Addresses -/

theorem hiByte_toNat (a : Word) : (hiByte a).toNat = a.toNat / 256 := by
  have ha := a.isLt
  simp only [hiByte, BitVec.extractLsb'_toNat, Nat.shiftRight_eq_div_pow]
  omega

theorem loByte_toNat (a : Word) : (loByte a).toNat = a.toNat % 256 := by
  simp [loByte, BitVec.extractLsb'_toNat]

theorem word_toNat (hi lo : Byte) : (word hi lo).toNat = hi.toNat * 256 + lo.toNat := by
  have hlo := lo.isLt
  rw [word, BitVec.toNat_append, ← Nat.shiftLeft_add_eq_or_of_lt hlo, Nat.shiftLeft_eq]

/-- A word is its high byte and its low byte (R18). -/
@[simp] theorem word_hiByte_loByte (a : Word) : word (hiByte a) (loByte a) = a := by
  apply BitVec.eq_of_toNat_eq
  rw [word_toNat, hiByte_toNat, loByte_toNat]
  omega

/-- The I/O page is the last page of the address space (R48). -/
theorem inIoPage_iff (a : Word) : inIoPage a = true ↔ 0xFF00 ≤ a.toNat := by
  have ha := a.isLt
  rw [inIoPage, beq_iff_eq, BitVec.toNat_eq, hiByte_toNat, show (0xFF : Byte).toNat = 255 from rfl]
  omega

/-- An address of the I/O page from its offset. -/
theorem eq_ioAddress_of_inIoPage {a : Word} (h : inIoPage a = true) : a = ioAddress (loByte a) := by
  rw [inIoPage, beq_iff_eq] at h
  rw [ioAddress, ← h, word_hiByte_loByte]

/-! ## Places -/

/-- The window of the selected ROM bank (R48). -/
theorem place_romWindow (s : State) {a : Word} (h : 0x4000 ≤ a.toNat) (h' : a.toNat < 0x8000) :
    s.place a = .cell .rom (s.romBank * 16384 + (a.toNat - 0x4000)) := by
  rw [State.place, if_neg (by omega), if_pos h']

/-- The window of the selected RAM bank, the disabled area without external RAM (R48, R51). -/
theorem place_ramWindow (s : State) {a : Word} (h : 0xA000 ≤ a.toNat) (h' : a.toNat < 0xC000) :
    s.place a = if s.cfg.ramBanks = 0 then .disabled else .cell .sram (s.ramBank * 8192 + (a.toNat - 0xA000)) := by
  rw [State.place, if_neg (by omega), if_neg (by omega), if_neg (by omega), if_pos h']

/-- Work RAM and its echo: the same bytes every 0x2000 (R48, R49). -/
theorem place_workRam (s : State) {a : Word} (h : 0xC000 ≤ a.toNat) (h' : a.toNat < 0xFE00) :
    s.place a = .cell .wram ((a.toNat - 0xC000) % 0x2000) := by
  rw [State.place, if_neg (by omega), if_neg (by omega), if_neg (by omega), if_neg (by omega)]
  by_cases hecho : a.toNat < 0xE000
  · rw [if_pos hecho, Nat.mod_eq_of_lt (by omega)]
  · rw [if_neg hecho, if_pos h', Nat.mod_eq_sub_mod (by omega), Nat.mod_eq_of_lt (by omega), Nat.sub_sub]

theorem place_oam (s : State) {a : Word} (h : 0xFE00 ≤ a.toNat) (h' : a.toNat < 0xFF00) :
    s.place a = .cell .oam (a.toNat - 0xFE00) := by
  rw [State.place, if_neg (by omega), if_neg (by omega), if_neg (by omega), if_neg (by omega), if_neg (by omega),
    if_neg (by omega), if_pos h']

/-- The page table from the place back to the address (R48). -/
theorem address_of_place {s : State} {a : Word} {b : Buffer} {off : Nat} (h : s.place a = .cell b off) :
    match b with
    | .rom => a.toNat < 0x8000
    | .vram => a.toNat = 0x8000 + off ∧ off < 0x2000
    | .sram => a.toNat + s.ramBank * 8192 = 0xA000 + off ∧ 0xA000 ≤ a.toNat ∧ a.toNat < 0xC000
    | .wram => (a.toNat = 0xC000 + off ∧ off < 0x2000) ∨ (a.toNat = 0xE000 + off ∧ off < 0x1E00)
    | .oam => a.toNat = 0xFE00 + off ∧ off < 0x100
    | .io => a.toNat = 0xFF00 + off := by
  simp only [State.place] at h
  repeat' split at h
  all_goals cases h
  all_goals dsimp only
  all_goals omega

/-- Above ROM two addresses name the same byte only if they are equal, or the echo and its mirror (R48, R49). -/
theorem place_inj {s : State} {a b : Word} (ha : 0x8000 ≤ a.toNat) (hp : s.place a ≠ .disabled)
    (h : s.place a = s.place b) :
    a.toNat = b.toNat ∨ a.toNat = b.toNat + 0x2000 ∨ b.toNat = a.toNat + 0x2000 := by
  cases hc : s.place a with
  | disabled => exact absurd hc hp
  | cell buf off =>
    have h1 := address_of_place hc
    have h2 := address_of_place (h ▸ hc)
    cases buf <;> dsimp only at h1 h2 <;> omega

/-! ## Accesses without a handler -/

/-- A read without a special access answers the byte that the page table names (R55). -/
theorem loadByte_of_not_special {a : Word} (h : (inIoPage a && specialRead (loByte a)) = false) (s : State) :
    s.loadByte a = s.rawRead a := by
  simp [State.loadByte, h]

theorem inIoPage_eq_false {a : Word} (h : a.toNat < 0xFF00) : inIoPage a = false := by
  rw [← Bool.not_eq_true, inIoPage_iff]
  omega

theorem loadByte_of_lt {a : Word} (h : a.toNat < 0xFF00) (s : State) : s.loadByte a = s.rawRead a :=
  loadByte_of_not_special (by simp [inIoPage_eq_false h]) s

theorem storesAt_iff (s : State) (a : Word) :
    s.storesAt a = true ↔
      0x8000 ≤ a.toNat ∧ s.place a ≠ .disabled ∧ (inIoPage a && specialWrite (loByte a)) = false := by
  simp only [State.storesAt, Bool.and_eq_true, decide_eq_true_eq, Bool.not_eq_true', and_assoc]

theorem plainAt_iff (s : State) (a : Word) :
    s.plainAt a = true ↔ s.storesAt a = true ∧ (inIoPage a && specialRead (loByte a)) = false := by
  simp only [State.plainAt, Bool.and_eq_true, Bool.not_eq_true']

/-- Where writes only store, a store is the write of the byte that the page table names (R56, R73). -/
theorem store_of_storesAt {s : State} {a : Word} (h : s.storesAt a = true) (v : Byte) :
    s.store a v = .next (s.writePlace (s.place a) v) := by
  obtain ⟨hrom, -, hspecial⟩ := (storesAt_iff s a).mp h
  simp [State.store, hspecial, Nat.not_lt.mpr hrom]

/-- Of the offsets where a read is special, only P1 stores a write as it is (R54). -/
theorem specialRead_only_p1 {o : Byte} (hr : specialRead o = true) (hw : specialWrite o = false) : o = 0x00 := by
  simp only [specialRead, Bool.or_eq_true, beq_iff_eq] at hr
  obtain (rfl | rfl) | rfl := hr
  · rfl
  · exact absurd hw (by decide)
  · exact absurd hw (by decide)

/-- Where writes only store, P1 apart, a read has no handler either (R54). -/
theorem loadByte_of_storesAt {s : State} {a : Word} (h : s.storesAt a = true) (ha : a ≠ 0xFF00) (t : State) :
    t.loadByte a = t.rawRead a := by
  obtain ⟨-, -, hw⟩ := (storesAt_iff s a).mp h
  refine loadByte_of_not_special ?_ t
  by_contra hr
  obtain ⟨hio, hr⟩ : inIoPage a = true ∧ specialRead (loByte a) = true := by simpa using hr
  have hlo := specialRead_only_p1 hr (by simpa [hio] using hw)
  exact ha ((eq_ioAddress_of_inIoPage hio).trans (by rw [hlo]; rfl))

/-- A read at a plain address answers the byte there and changes nothing, also in a later state `t` (R64). -/
theorem load_of_plainAt {s : State} {a : Word} (h : s.plainAt a = true) (t : State) :
    t.loadByte a = t.rawRead a ∧ t.afterLoad a = t := by
  obtain ⟨-, hspecial⟩ := (plainAt_iff s a).mp h
  have hne : a ≠ 0xFF05 := by
    rintro rfl
    exact absurd hspecial (by decide)
  exact ⟨loadByte_of_not_special hspecial t, afterLoad_of_ne t a hne⟩

theorem place_writePlace (s : State) (p : Place) (v : Byte) (a : Word) : (s.writePlace p v).place a = s.place a :=
  place_congr (by simp) (by simp) (by simp) a

theorem storesAt_writePlace (s : State) (p : Place) (v : Byte) (a : Word) :
    (s.writePlace p v).storesAt a = s.storesAt a := by
  rw [State.storesAt, State.storesAt, place_writePlace]

/-- Two neighbouring addresses where writes only store name two bytes. -/
theorem place_pred_ne {s : State} {a : Word} (h1 : s.storesAt (a - 1) = true) (h2 : s.storesAt (a - 2) = true) :
    s.place (a - 1) ≠ s.place (a - 2) := by
  obtain ⟨hrom1, hp1, -⟩ := (storesAt_iff s _).mp h1
  obtain ⟨hrom2, -, -⟩ := (storesAt_iff s _).mp h2
  have hnext : (a - 1).toNat = (a - 2).toNat + 1 := by bv_omega
  intro h
  have hinj := place_inj hrom1 hp1 h
  omega

/-! ## Frames -/

/-- The registers that `SameRegsBut` speaks of, one by one, for `simp`. -/
theorem sameRegsBut_nil_iff (s t : State) :
    SameRegsBut [] s t ↔
      t.a = s.a ∧ t.b = s.b ∧ t.c = s.c ∧ t.d = s.d ∧ t.e = s.e ∧ t.h = s.h ∧ t.l = s.l := by
  constructor
  · intro h
    have hq := fun q => h q List.not_mem_nil
    exact ⟨hq .a, hq .b, hq .c, hq .d, hq .e, hq .h, hq .l⟩
  · rintro ⟨ha, hb, hc, hd, he, hh, hl⟩ (_ | _ | _ | _ | _ | _ | _) -
    exacts [hb, hc, hd, he, hh, hl, ha]

end Sys2Proof.Machine
end

section
/-! Plain stores, the echo of work RAM, and the bank controller's side of the bus. -/

namespace Sys2Proof.Machine

/-- Settles O24: the store is one raw write, which changes one byte of one buffer. -/
theorem plainStoreReadsBack : Obligations.PlainStoreReadsBack := by
  intro s a v h
  obtain ⟨-, hp, -⟩ := (storesAt_iff s a).mp h
  have hread : (s.writePlace (s.place a) v).rawRead a = v := by simp [rawRead_writePlace s a a v hp]
  refine ⟨_, store_of_storesAt h v, hread, fun ha => (loadByte_of_storesAt h ha _).trans hread, ?_, ?_⟩
  · intro a' hne
    simp [rawRead_writePlace s a a' v hp, hne]
  · simp [sameRegsBut_nil_iff, SameLatches, SameUnits, SameHost]

/-- Work RAM and its echo only store (R54). -/
theorem storesAt_workRam (s : State) {a : Word} (h : 0xC000 ≤ a.toNat) (h' : a.toNat < 0xFE00) :
    s.storesAt a = true := by
  have hio : inIoPage a = false := inIoPage_eq_false (by omega)
  exact (storesAt_iff s a).mpr ⟨by omega, by simp [place_workRam s h h'], by simp [hio]⟩

/-- Settles O23: both addresses name the byte of work RAM at the same offset modulo 0x2000, where writes only store. -/
theorem echoRamMirrorsWorkRam : Obligations.EchoRamMirrorsWorkRam := by
  constructor
  · intro s a b v ha ha' hb
    have hmirror : (a - 0x2000).toNat = a.toNat - 0x2000 := by bv_omega
    have hplace (c : Word) (hc : c = a ∨ c = a - 0x2000) :
        0xC000 ≤ c.toNat ∧ c.toNat < 0xFE00 ∧ s.place c = .cell .wram (a.toNat - 0xE000) := by
      have hrange : 0xC000 ≤ c.toNat ∧ c.toNat < 0xFE00 ∧ (c.toNat - 0xC000) % 0x2000 = a.toNat - 0xE000 := by
        rcases hc with rfl | rfl <;> omega
      obtain ⟨hlo, hhi, hoff⟩ := hrange
      exact ⟨hlo, hhi, by rw [place_workRam s hlo hhi, hoff]⟩
    obtain ⟨hb1, hb2, hpb⟩ := hplace b hb
    have hread (c : Word) (hc : c = a ∨ c = a - 0x2000) : (s.writePlace (s.place b) v).loadByte c = v := by
      obtain ⟨-, hc2, hpc⟩ := hplace c hc
      rw [loadByte_of_lt (by omega), rawRead_writePlace s b c v (by simp [hpb]), hpb, hpc, if_pos rfl]
    exact ⟨hpb, _, store_of_storesAt (storesAt_workRam s hb1 hb2) v, hread a (.inl rfl), hread _ (.inr rfl)⟩
  · intro s a off ha h
    have hwram := address_of_place h
    dsimp only at hwram
    omega

/-- Settles O25: MBC_WRITE writes the banks, the controller's own state and the list of calls to the host only. -/
theorem writeBelow8000IsTheControllers : Obligations.WriteBelow8000IsTheControllers := by
  intro s t a v ha h
  have hmbc : s.mbcWrite a v = .next t := by rwa [State.store, if_pos ha] at h
  rw [mbcWrite_next hmbc]
  refine ⟨fun b => by cases b <;> rfl, rfl, ?_⟩
  simp [sameRegsBut_nil_iff, SameLatches, SameUnits]

/-! ## The banks -/

/-- TIMA after the catch-up, by the bytes of the timer and the clock alone (R222). -/
theorem tima_catchUp (s : State) :
    s.catchUp.tima =
      if timerEnabled s.tac && decide (s.timerTicks < s.timerTarget) then
        (timerTicksFrom s.tma (s.timerTarget - s.timerTicks) s.tima).1
      else s.tima := by
  unfold State.catchUp
  split
  · exact (ioByte_raiseInterruptIf _ _ _ _).trans (by simp [ioByte_setIo])
  · rfl

/-- What a read answers is fixed by the byte the page table names, the I/O page, the keys, the clock and the timer's
anchors: no register, bank or latch enters but through the page table (R55, R65). -/
theorem loadByte_congr {s t : State} {a : Word} (hraw : t.rawRead a = s.rawRead a) (hio : t.io = s.io)
    (hkeys : t.keys = s.keys) (hclocks : t.clocks = s.clocks) (hdiv : t.divBase = s.divBase)
    (hbase : t.timerBase = s.timerBase) (hticks : t.timerTicks = s.timerTicks) : t.loadByte a = s.loadByte a := by
  have hbyte (o : Nat) : t.ioByte o = s.ioByte o := by rw [State.ioByte, State.ioByte, hio]
  have hp1 : t.p1 = s.p1 := hbyte 0x00
  have htima : t.tima = s.tima := hbyte 0x05
  have htma : t.tma = s.tma := hbyte 0x06
  have htac : t.tac = s.tac := hbyte 0x07
  have htarget : t.timerTarget = s.timerTarget := by rw [State.timerTarget, State.timerTarget, hclocks, hbase, htac]
  have hspecial (o : Byte) : t.specialReadValue o = s.specialReadValue o := by
    rw [State.specialReadValue, State.specialReadValue, State.joypad, State.joypad, State.divider, State.divider,
      tima_catchUp, tima_catchUp, hp1, hkeys, hclocks, hdiv, htac, hticks, htarget, htma, htima]
  rw [State.loadByte, State.loadByte, hraw, hspecial]

/-- What the page table answers is fixed by the place and the buffers. -/
theorem rawRead_congr {s t : State} {a : Word} (hbuf : ∀ b, t.buffer b = s.buffer b) (hplace : t.place a = s.place a) :
    t.rawRead a = s.rawRead a := by
  rw [State.rawRead, State.rawRead, hplace]
  cases s.place a with
  | disabled => rfl
  | cell b off => simp only [State.readPlace, hbuf]

/-- Selecting a ROM bank moves no address outside its window (R52). -/
theorem place_of_not_romWindow {a : Word} (h : ¬ (0x4000 ≤ a.toNat ∧ a.toNat < 0x8000)) (s : State) (n : Nat) :
    { s with romBank := n }.place a = s.place a := by
  simp only [State.place]
  by_cases h1 : a.toNat < 0x4000
  · rw [if_pos h1, if_pos h1]
  · have h2 : ¬ a.toNat < 0x8000 := by omega
    simp only [if_neg h2]

/-- Selecting a RAM bank moves no address outside its window (R53). -/
theorem place_of_not_ramWindow {a : Word} (h : ¬ (0xA000 ≤ a.toNat ∧ a.toNat < 0xC000)) (s : State) (n : Nat) :
    { s with ramBank := n }.place a = s.place a := by
  simp only [State.place]
  by_cases h1 : a.toNat < 0xA000
  · simp only [if_pos h1]
  · have h2 : ¬ a.toNat < 0xC000 := by omega
    simp only [if_neg h2]

/-- The ROM window reads the selected bank, and every other address reads as before (R52). -/
theorem selectRomBank_reads (s : State) (n : Nat) :
    (∀ a : Word, 0x4000 ≤ a.toNat → a.toNat < 0x8000 →
      { s with romBank := n }.loadByte a = Memory.read .rom s.rom (n * 16384 + (a.toNat - 0x4000))) ∧
    ∀ a : Word, ¬ (0x4000 ≤ a.toNat ∧ a.toNat < 0x8000) → { s with romBank := n }.loadByte a = s.loadByte a := by
  constructor
  · intro a h h'
    rw [loadByte_of_lt (by omega), State.rawRead, place_romWindow _ h h']
    rfl
  · intro a h
    have hraw := rawRead_congr (fun b => by cases b <;> rfl) (place_of_not_romWindow h s n)
    exact loadByte_congr hraw rfl rfl rfl rfl rfl rfl

/-- With external RAM, its window reads the selected bank, and every other address reads as before (R53). -/
theorem selectRamBank_reads (s : State) (n : Nat) (hram : s.cfg.ramBanks ≠ 0) :
    (∀ a : Word, 0xA000 ≤ a.toNat → a.toNat < 0xC000 →
      { s with ramBank := n }.loadByte a = Memory.read .sram s.sram (n * 8192 + (a.toNat - 0xA000))) ∧
    ∀ a : Word, ¬ (0xA000 ≤ a.toNat ∧ a.toNat < 0xC000) → { s with ramBank := n }.loadByte a = s.loadByte a := by
  constructor
  · intro a h h'
    rw [loadByte_of_lt (by omega), State.rawRead, place_ramWindow _ h h', if_neg hram]
    rfl
  · intro a h
    have hraw := rawRead_congr (fun b => by cases b <;> rfl) (place_of_not_ramWindow h s n)
    exact loadByte_congr hraw rfl rfl rfl rfl rfl rfl

/-- Without external RAM its window is the disabled area: it reads 0xFF and discards writes (R51, R53). -/
theorem ramWindow_disabled {s : State} (hram : s.cfg.ramBanks = 0) {a : Word} (h : 0xA000 ≤ a.toNat)
    (h' : a.toNat < 0xC000) (v : Byte) : s.loadByte a = 0xFF ∧ s.store a v = .next s := by
  have hplace : s.place a = .disabled := by rw [place_ramWindow s h h', if_pos hram]
  constructor
  · rw [loadByte_of_lt (by omega), State.rawRead, hplace]
    rfl
  · have hio : inIoPage a = false := inIoPage_eq_false (by omega)
    simp [State.store, show ¬ a.toNat < 0x8000 by omega, hio, hplace, State.writePlace]

/-- Settles O26: a hook in range writes its bank register, which moves the hook's own window only. -/
theorem bankHooksRepointTheirWindows : Obligations.BankHooksRepointTheirWindows := by
  intro s n
  refine ⟨fun h => ⟨_, if_pos h, rfl, selectRomBank_reads s n⟩, fun h => if_neg (by omega), ?_, ?_, ?_⟩
  · exact fun hram => ⟨if_pos hram, fun a v h h' => ramWindow_disabled hram h h' v⟩
  · intro h
    have hram : s.cfg.ramBanks ≠ 0 := by omega
    exact ⟨_, (if_neg hram).trans (if_pos h), rfl, selectRamBank_reads s n hram⟩
  · exact fun hram h => (if_neg hram).trans (if_neg (by omega))

end Sys2Proof.Machine
end

section
/-! The special registers of the I/O page: IF, IE, LCDC, STAT, LY and the palettes, the OAM DMA, and P1. -/

namespace Sys2Proof.Machine

/-! ## Stored registers (R66 to R70, R72) -/

/-- The special writes that only store: IF, LCDC, the palettes and IE (R66, R67, R72). The byte reads back, for none of
them has a special read. -/
theorem store_storedRegister {o : Byte} (ho : o ∈ ([0x0F, 0x40, 0x47, 0x48, 0x49, 0xFF] : List Byte)) (s : State)
    (v : Byte) :
    s.store (ioAddress o) v = .next (s.setIo o.toNat v) ∧ ∀ t : State, t.loadByte (ioAddress o) = t.ioByte o.toNat := by
  simp only [List.mem_cons, List.not_mem_nil, or_false] at ho
  obtain rfl | rfl | rfl | rfl | rfl | rfl := ho
  all_goals exact ⟨rfl, fun _ => rfl⟩

theorem ioAddress_eq_add (o : Byte) : ioAddress o = 0xFF00 + o.setWidth 16 := by
  apply BitVec.eq_of_toNat_eq
  have ho := o.isLt
  rw [ioAddress, word_toNat, BitVec.toNat_add, BitVec.toNat_setWidth, show (0xFF : Byte).toNat = 255 from rfl,
    show (0xFF00 : Word).toNat = 0xFF00 from rfl]
  omega

/-- A raw I/O write changes no other buffer. -/
theorem buffer_setIo (s : State) (o : Nat) (v : Byte) {b : Buffer} (hb : b ≠ .io) :
    (s.setIo o v).buffer b = s.buffer b := (buffer_setBuffer s .io b _).trans (if_neg hb)

/-- A write of STAT takes bits 7:3 of the value and keeps bits 2:0 (R69). -/
theorem getLsbD_writeStat (s : State) (v : Byte) (k : Nat) :
    (s.writeStat v).stat.getLsbD k = if k < 3 then s.stat.getLsbD k else v.getLsbD k := by
  have hstat : (s.writeStat v).stat = (v &&& 0xF8) ||| (s.stat &&& 0x07) := by
    simp [State.stat, State.writeStat, ioByte_setIo]
  rw [hstat]
  by_cases hk : k < 8
  · interval_cases k <;> simp
  · simp [BitVec.getLsbD_of_ge _ _ (Nat.le_of_not_lt hk), show ¬ k < 3 by omega]

/-- Settles O27: the write of STAT merges two bytes, the write of LY is the state itself, and the others are one raw
write. -/
theorem ppuAndInterruptRegisterWrites : Obligations.PpuAndInterruptRegisterWrites := by
  intro s v
  refine ⟨⟨s.writeStat v, rfl, ?_, ?_, ?_, fun b hb => buffer_setIo s _ _ hb, ?_⟩, rfl, ?_⟩
  · exact fun k hk => (getLsbD_writeStat s v k).trans (if_pos hk)
  · exact fun k hk => (getLsbD_writeStat s v k).trans (if_neg (by omega))
  · exact fun o ho => (ioByte_setIo _ _ _ _).trans (if_neg ho)
  · simp [SameUnits, State.writeStat]
  · intro o ho
    rw [← ioAddress_eq_add]
    obtain ⟨hstore, hload⟩ := store_storedRegister ho s v
    refine ⟨_, hstore, ?_, ?_, fun b hb => buffer_setIo s _ _ hb, ?_⟩
    · rw [hload, ioByte_setIo, if_pos rfl]
    · exact fun o' ho' => (ioByte_setIo _ _ _ _).trans (if_neg ho')
    · simp [SameUnits, SameLatches]

/-! ## The OAM DMA (R71) -/

theorem buffer_dmaCopy (v : Byte) (n : Nat) (s : State) {b : Buffer} (hb : b ≠ .oam) :
    (dmaCopy v n s).buffer b = s.buffer b := by
  rw [dmaCopy_eq]
  cases b with
  | oam => exact absurd rfl hb
  | rom => rfl
  | vram => rfl
  | sram => rfl
  | wram => rfl
  | io => rfl

/-- If the copy of the first `n` bytes keeps OAM from offset `n` on, every address that names no earlier byte of OAM reads
as before. -/
theorem rawRead_dmaCopy {v : Byte} {n : Nat} {s : State} {a : Word}
    (hkept : ∀ i, n ≤ i → Memory.read .oam (dmaCopy v n s).oam i = Memory.read .oam s.oam i)
    (ha : ∀ i, s.place a = .cell .oam i → n ≤ i) : (dmaCopy v n s).rawRead a = s.rawRead a := by
  have hplace : (dmaCopy v n s).place a = s.place a := place_congr (by simp) (by simp) (by simp) a
  rw [State.rawRead, State.rawRead, hplace]
  cases hc : s.place a with
  | disabled => rfl
  | cell b off =>
    by_cases hb : b = .oam
    · subst hb
      exact hkept off (ha off hc)
    · rw [State.readPlace, State.readPlace, buffer_dmaCopy v n s hb]

/-- The source byte of offset `n` is no byte of OAM below offset `n`, also where the source is the OAM page itself. -/
theorem dmaSource_place {s : State} {v : Byte} {n i : Nat} (hn : n < 256)
    (h : s.place (word v (BitVec.ofNat 8 n)) = .cell .oam i) : n ≤ i := by
  have haddr := address_of_place h
  dsimp only at haddr
  rw [word_toNat, BitVec.toNat_ofNat] at haddr
  omega

/-- OAM after the first `n` bytes of the copy: in rising order no byte is overwritten before it is read. -/
theorem read_oam_dmaCopy (v : Byte) (n : Nat) (s : State) (hn : n ≤ 256) (i : Nat) :
    Memory.read .oam (dmaCopy v n s).oam i =
      if i < n then s.rawRead (word v (BitVec.ofNat 8 i)) else Memory.read .oam s.oam i := by
  induction n generalizing i with
  | zero => rfl
  | succ n ih =>
    have hsource : (dmaCopy v n s).rawRead (word v (BitVec.ofNat 8 n)) = s.rawRead (word v (BitVec.ofNat 8 n)) :=
      rawRead_dmaCopy (fun i hi => (ih (by omega) i).trans (if_neg (by omega))) fun i => dmaSource_place (by omega)
    have hwrite : Memory.read .oam (dmaCopy v (n + 1) s).oam i =
        if i = n then s.rawRead (word v (BitVec.ofNat 8 n)) else Memory.read .oam (dmaCopy v n s).oam i := by
      rw [← hsource]
      exact Memory.read_write ..
    rw [hwrite, ih (by omega)]
    by_cases hi : i = n
    · subst hi
      simp
    · simp [hi, show i < n + 1 ↔ i < n by omega]

/-- Settles O28: after the write of 0xFF46 the copy is `dmaCopy`, byte by byte, and it writes OAM only. -/
theorem oamDmaCopiesExactly : Obligations.OamDmaCopiesExactly := by
  intro s v
  have hread := read_oam_dmaCopy v 160 (s.setIo 0x46 v) (by omega)
  have hio (o : Nat) : (s.writeDma v).ioByte o = (s.setIo 0x46 v).ioByte o := by simp [State.ioByte, State.writeDma]
  refine ⟨s.writeDma v, rfl, ?_, ?_, ?_, ?_, ?_, ?_⟩
  · intro i hi
    have hto : (BitVec.ofNat 16 (0xFE00 + i)).toNat = 0xFE00 + i := Nat.mod_eq_of_lt (by omega)
    have hfrom : word v (BitVec.ofNat 8 i) = BitVec.ofNat 16 (v.toNat * 256 + i) := by
      apply BitVec.eq_of_toNat_eq
      have hv := v.isLt
      rw [word_toNat, BitVec.toNat_ofNat, BitVec.toNat_ofNat]
      omega
    rw [State.rawRead, place_oam _ (by omega) (by omega), hto, Nat.add_sub_cancel_left, ← hfrom]
    exact (hread i).trans (if_pos hi)
  · exact fun i hi => (hread i).trans (if_neg (by omega))
  · rw [hio, ioByte_setIo, if_pos rfl]
  · exact fun o ho => (hio o).trans ((ioByte_setIo _ _ _ _).trans (if_neg ho))
  · exact fun b hb hb' => (buffer_dmaCopy v 160 _ hb').trans (buffer_setIo s _ _ hb)
  · simp [sameRegsBut_nil_iff, SameLatches, SameUnits, State.writeDma]

/-! ## P1 (R65) -/

/-- A key line of one group: 0 exactly if the group is selected and the key is pressed. -/
theorem getLsbD_keyGroup (unselected : Bool) (pressed : Byte) {k : Nat} (hk : k < 4) :
    (if unselected then 0x0F else ~~~pressed : Byte).getLsbD k = !(!unselected && pressed.getLsbD k) := by
  cases unselected with
  | true => interval_cases k <;> simp
  | false => simp [show k < 8 by omega]

/-- A key line of P1: 0 exactly if one of the two groups pulls it down. -/
theorem getLsbD_keyLines (s : State) {k : Nat} (hk : k < 4) (directions buttons : Byte) :
    (0xC0 ||| (s.p1 &&& 0x30) ||| (0x0F &&& directions &&& buttons) : Byte).getLsbD k =
      (directions.getLsbD k && buttons.getLsbD k) := by
  have hmasks : (0xC0 : Byte).getLsbD k = false ∧ (0x30 : Byte).getLsbD k = false ∧ (0x0F : Byte).getLsbD k = true := by
    interval_cases k <;> decide
  simp only [BitVec.getLsbD_or, BitVec.getLsbD_and, hmasks, Bool.and_false, Bool.false_or, Bool.true_and]

/-- Settles O29: bits 7:4 are a mask and the selectors, and a key line is the conjunction of the two groups' lines. -/
theorem joypadRead : Obligations.JoypadRead := by
  intro s
  have hload : s.loadByte 0xFF00 = s.joypad := rfl
  rw [hload, State.joypad]
  refine ⟨fun h4 h5 => by simp [h4, h5], fun hsel => ?_⟩
  rw [if_neg (by simpa using hsel)]
  refine ⟨by simp, by simp, by simp, by simp, fun k hk => ?_⟩
  have hdirection : (s.keys &&& 0x0F).getLsbD k = s.keys.getLsbD k := by interval_cases k <;> simp
  rw [getLsbD_keyLines s hk, getLsbD_keyGroup _ _ hk, getLsbD_keyGroup _ _ hk, hdirection, BitVec.getLsbD_ushiftRight,
    Bool.not_or]

end Sys2Proof.Machine
end

section
/-! The service of an interrupt and the return from it (60_exceptions R214, R218). -/

namespace Sys2Proof.Machine

/-- A push where writes only store: SP falls by 2, the two bytes read back, and no other register changes (R62). -/
theorem push_of_storesAt {s t : State} {v : Word} (h1 : s.storesAt (s.sp - 1) = true) (h2 : s.storesAt (s.sp - 2) = true)
    (h : s.push v = .next t) :
    t.sp = s.sp - 2 ∧ t.rawRead (s.sp - 1) = hiByte v ∧ t.rawRead (s.sp - 2) = loByte v ∧ SameRegsBut [] s t ∧
      t.f = s.f := by
  obtain ⟨-, hp1, -⟩ := (storesAt_iff s _).mp h1
  obtain ⟨-, hp2, -⟩ := (storesAt_iff s _).mp h2
  have h2' := (storesAt_writePlace s (s.place (s.sp - 1)) (hiByte v) (s.sp - 2)).trans h2
  have hread (u : State) (n : Word) (a : Word) : { u with sp := n }.rawRead a = u.rawRead a := rfl
  rw [push_eq, store_of_storesAt h1, seq_next, store_of_storesAt h2', seq_next] at h
  cases h
  refine ⟨rfl, ?_, ?_, ?_, ?_⟩
  · rw [hread, rawRead_writePlace _ _ _ _ (by rwa [place_writePlace]), place_writePlace, place_writePlace,
      if_neg (place_pred_ne h1 h2), rawRead_writePlace _ _ _ _ hp1, if_pos rfl]
  · rw [hread, rawRead_writePlace _ _ _ _ (by rwa [place_writePlace]), if_pos rfl]
  · simp [sameRegsBut_nil_iff]
  · simp

/-- A pop from plain memory answers the word there, and moves SP past it (R62). -/
theorem pop_of_plainAt {s t : State} (h1 : s.plainAt t.sp = true) (h2 : s.plainAt (t.sp + 1) = true) :
    t.popValue = word (t.rawRead (t.sp + 1)) (t.rawRead t.sp) ∧ t.afterPop = { t with sp := t.sp + 2 } := by
  obtain ⟨hlow, hafter⟩ := load_of_plainAt h1 t
  have hbyte : t.afterPopByte = { t with sp := t.sp + 1 } := by rw [State.afterPopByte, hafter]
  obtain ⟨hhigh, hafter'⟩ := load_of_plainAt h2 { t with sp := t.sp + 1 }
  constructor
  · rw [State.popValue, hlow, hbyte, hhigh]
    rfl
  · rw [State.afterPop, hbyte, State.afterPopByte, hafter', show t.sp + 2 = t.sp + 1 + 1 by bv_omega]

/-- RETI on plain memory: PC takes the word at SP, SP moves past it, and IME is set (R196). -/
theorem exec_reti_of_plainAt {s t : State} (h1 : s.plainAt t.sp = true) (h2 : s.plainAt (t.sp + 1) = true) :
    exec .reti t = .next ({ t with
      sp := t.sp + 2, pc := word (t.rawRead (t.sp + 1)) (t.rawRead t.sp), ime := true }.tick 16) := by
  obtain ⟨hvalue, hpop⟩ := pop_of_plainAt h1 h2
  show Host.Outcome.next (State.tick { { t.afterPop with pc := t.popValue } with ime := true } 16) = _
  rw [hvalue, hpop]

/-- The service of an interrupt with its stack where writes only store: PC is pushed, and no other register but PC
changes (R214). -/
theorem serviceInterrupt_of_storesAt {s t : State} {k : Nat} (h1 : s.storesAt (s.sp - 1) = true)
    (h2 : s.storesAt (s.sp - 2) = true) (h : s.serviceInterrupt k = .next t) :
    t.sp = s.sp - 2 ∧ t.rawRead (s.sp - 1) = hiByte s.pc ∧ t.rawRead (s.sp - 2) = loByte s.pc ∧ SameRegsBut [] s t ∧
      t.f = s.f := by
  obtain ⟨m, hpush, ht⟩ := seq_eq_next.mp h
  cases ht
  exact push_of_storesAt (s := { s.setIo 0x0F (withBit s.ifReg k false) with ime := false }) (t := m) h1 h2 hpush

/-- Settles O38: the service pushes PC on plain memory, and RETI pops the same word from there. -/
theorem retiUndoesTheService : Obligations.RetiUndoesTheService := by
  intro s t hime hpending h1 h2 h
  rw [State.interruptStep, if_neg hpending, if_pos hime] at h
  obtain ⟨hsp, hhigh, hlow, hregs, hf⟩ := serviceInterrupt_of_storesAt (s := { s with halted := false })
    ((plainAt_iff s _).mp h1).1 ((plainAt_iff s _).mp h2).1 h
  dsimp only at hsp hhigh hlow hf
  have hnext : s.sp - 2 + 1 = s.sp - 1 := by bv_omega
  have hreti := exec_reti_of_plainAt (s := s) (t := t) (by rwa [hsp]) (by rwa [hsp, hnext])
  rw [hsp, hnext, hhigh, hlow, word_hiByte_loByte] at hreti
  have hback : s.sp - 2 + 2 = s.sp := by bv_omega
  exact ⟨_, hreti, rfl, hback, rfl, hregs, hf⟩

end Sys2Proof.Machine
end

section
/-! The decoder and the encoder are inverse to each other (30_encoding R78 to R90). -/

namespace Sys2Proof.Machine

/-! ## Bytes and fields -/

@[simp] theorem loByte_word (hi lo : Byte) : loByte (word hi lo) = lo := by
  have hlo := lo.isLt
  apply BitVec.eq_of_toNat_eq
  rw [loByte_toNat, word_toNat]
  omega

@[simp] theorem hiByte_word (hi lo : Byte) : hiByte (word hi lo) = hi := by
  have hlo := lo.isLt
  apply BitVec.eq_of_toNat_eq
  rw [hiByte_toNat, word_toNat]
  omega

/-- An opcode is its fields x, y and z, one after the other (R79). -/
theorem fields_append (op : Byte) : fieldX op ++ fieldY op ++ fieldZ op = op := by
  refine BitVec.eq_of_getLsbD_eq fun i hi => ?_
  rw [BitVec.getLsbD_append, BitVec.getLsbD_append]
  interval_cases i <;> simp [fieldX, fieldY, fieldZ]

/-- A property of every byte follows from its rows: the four values of x with the eight of y and of z (R79). -/
theorem forall_byte_of_fields {p : Byte → Prop} (h : ∀ (x : Fin 4) (y z : Fin 8),
    p ((BitVec.ofFin x : BitVec 2) ++ (BitVec.ofFin y : BitVec 3) ++ (BitVec.ofFin z : BitVec 3))) (op : Byte) : p op :=
  fields_append op ▸ h (fieldX op).toFin (fieldY op).toFin (fieldZ op).toFin

theorem instrLength_cases (op : Byte) : instrLength op = 1 ∨ instrLength op = 2 ∨ instrLength op = 3 := by
  unfold instrLength
  split
  · exact .inr (.inr rfl)
  split
  · exact .inr (.inl rfl)
  · exact .inl rfl

/-- Where the bytes of its length are there, an instruction is read, and they are taken off (R86). -/
theorem decode_cons {op : Byte} {bytes : List Byte} (h : instrLength op ≤ bytes.length + 1) :
    decode (op :: bytes) =
      .ok (decodeBytes op (bytes.getD 0 0) (bytes.getD 1 0), bytes.drop (instrLength op - 1)) :=
  if_neg (Nat.not_lt.mpr h)

/-! ## From the instruction to its bytes and back -/

/-- Row by row: the encoder's bytes are an opcode and the operands that its length asks for, and the decoder reads the
instruction back from them, whatever the bytes `rest` that follow. -/
theorem decodeBytes_encode {i : Instr} (h : i.wf = true) (rest : List Byte) :
    ∃ op operands, encode i = op :: operands ∧ operands.length + 1 = instrLength op ∧
      decodeBytes op ((operands ++ rest).getD 0 0) ((operands ++ rest).getD 1 0) = i := by
  cases i
  case prefix_cb => cases h
  all_goals
    refine ⟨_, _, rfl, rfl, ?_⟩
    simp only [List.cons_append, List.nil_append, List.getD_cons_zero, List.getD_cons_succ]
  -- The rows with an immediate word: it is read from its two halves (R80).
  case ld_bc_nn nn | ld_de_nn nn | ld_hl_nn nn | ld_sp_nn nn | ld_mnn_sp nn | ld_mnn_a nn | ld_a_mnn nn | jp_nn nn
    | jp_nz_nn nn | jp_z_nn nn | jp_nc_nn nn | jp_c_nn nn | call_nn nn | call_nz_nn nn | call_z_nn nn | call_nc_nn nn
    | call_c_nn nn =>
    conv_rhs => rw [← word_hiByte_loByte nn]
    rfl
  all_goals rfl

/-- Settles O1: the encoder's bytes are those that the length of their opcode asks for, and they are read back. -/
theorem decodeOfEncode : Obligations.DecodeOfEncode := by
  intro i rest h
  obtain ⟨op, operands, hcode, hlength, hread⟩ := decodeBytes_encode h rest
  have hoperands : operands.length = instrLength op - 1 := by omega
  rw [hcode, List.cons_append, decode_cons (by rw [List.length_append]; omega), hread, List.drop_left' hoperands]

/-! ## From the bytes to the instruction and back -/

/-- The second table, row by row (R88). -/
theorem encode_decodeCb (op2 : Byte) : (decodeCb op2).wf = true ∧ encode (decodeCb op2) = [0xCB, op2] := by
  revert op2
  refine forall_byte_of_fields fun x y z => ?_
  fin_cases x <;> fin_cases y <;> fin_cases z <;> exact ⟨rfl, rfl⟩

/-- The first table, row by row, with the two bytes after the opcode as one word; the row x = 3, y = 1, z = 3 is the
byte 0xCB, which leads to the second table (R87). -/
theorem encode_decodeBytes (op : Byte) (nn : Word) :
    (decodeBytes op (loByte nn) (hiByte nn)).wf = true ∧
      encode (decodeBytes op (loByte nn) (hiByte nn)) = [op, loByte nn, hiByte nn].take (instrLength op) := by
  unfold decodeBytes
  rw [word_hiByte_loByte]
  revert op
  refine forall_byte_of_fields fun x y z => ?_
  fin_cases x <;> fin_cases y <;> fin_cases z
  -- The rows stand in the order of their opcodes.
  rotate_left 0xCB
  · exact encode_decodeCb _
  all_goals exact ⟨rfl, rfl⟩

/-- Settles O2: any two bytes after the opcode are the halves of a word. -/
theorem encodeOfDecode : Obligations.EncodeOfDecode := by
  intro op b1 b2
  simpa using encode_decodeBytes op (word b2 b1)

/-! ## The undefined opcodes (R89) -/

/-- An undefined opcode is an instruction of one byte. -/
theorem encode_illegal {row : Byte × Instr} (h : row ∈ illegalRows) :
    row.2.wf = true ∧ encode row.2 = [row.1] := by
  revert row
  decide

theorem decodeBytes_illegal {row : Byte × Instr} (h : row ∈ illegalRows) (b1 b2 : Byte) :
    decodeBytes row.1 b1 b2 = row.2 := by
  obtain ⟨hwf, hrow⟩ := encode_illegal h
  obtain ⟨op, operands, hcode, -, hread⟩ := decodeBytes_encode hwf [b1, b2]
  rw [hrow] at hcode
  cases hcode
  exact hread

/-- The first byte of an encoding is the opcode that it was read from. -/
theorem head?_encode_decodeBytes (op b1 b2 : Byte) : (encode (decodeBytes op b1 b2)).head? = some op := by
  rw [(encodeOfDecode op b1 b2).2]
  obtain h | h | h := instrLength_cases op <;> rw [h] <;> rfl

/-- Settles O3: an undefined opcode is encoded as its own byte, which is then the byte that was read. -/
theorem elevenUndefinedOpcodes : Obligations.ElevenUndefinedOpcodes := by
  have bytes : ([0xD3, 0xDB, 0xDD, 0xE3, 0xE4, 0xEB, 0xEC, 0xED, 0xF4, 0xFC, 0xFD] : List Byte) =
    illegalRows.map Prod.fst := rfl
  refine ⟨fun op b1 b2 => ?_, fun row hrow b1 b2 => decodeBytes_illegal hrow b1 b2⟩
  rw [bytes]
  constructor
  · intro h
    obtain ⟨row, hrow, hread⟩ := List.mem_map.mp h
    have hop := head?_encode_decodeBytes op b1 b2
    rw [← hread, (encode_illegal hrow).2] at hop
    cases hop
    exact List.mem_map_of_mem hrow
  · intro h
    obtain ⟨row, hrow, rfl⟩ := List.mem_map.mp h
    rw [decodeBytes_illegal hrow]
    exact List.mem_map_of_mem hrow

/-! ## The row of the byte 0xCB (R82, R88) -/

/-- Settles O60: the two read the same fields of the second byte, and `exec` of each form is its shared operation. -/
theorem prefixRunsTheSecondTable : Obligations.PrefixRunsTheSecondTable := by
  intro s op2
  have hrow : exec (.prefix_cb op2) s = exec (decodeCb op2) s := by
    show cbRow op2 s = _
    unfold cbRow decodeCb
    generalize (fieldX op2).toNat = x
    cases regField (fieldZ op2) with
    | some r =>
      match x with
      | 0 => exact (exec_shiftReg _ r s).symm
      | 1 => exact (exec_bitReg _ r s).symm
      | 2 => exact (exec_resReg _ r s).symm
      | _ + 3 => exact (exec_setReg _ r s).symm
    | none =>
      match x with
      | 0 => exact (exec_shiftMem _ s).symm
      | 1 => exact (exec_bitMem _ s).symm
      | 2 => exact (exec_resMem _ s).symm
      | _ + 3 => exact (exec_setMem _ s).symm
  refine ⟨hrow, fun h => ?_⟩
  obtain ⟨t, ht⟩ := Answers.exec (decoded_decodeCb op2) h
  exact ⟨t, hrow.trans ht, ht⟩

end Sys2Proof.Machine
end

section
/-! The fetch of an instruction, and the step that runs it (30_encoding R81, R82). -/

namespace Sys2Proof.Machine

/-! ## One fetch -/

/-- A catch-up right after a catch-up has no tick to apply (R222). -/
theorem catchUp_catchUp (s : State) : s.catchUp.catchUp = s.catchUp := by
  by_cases hdue : (timerEnabled s.tac && decide (s.timerTicks < s.timerTarget)) = true
  · have htac : s.catchUp.tac = s.tac := ioByte_catchUp s 0x07 (by decide) (by decide)
    have htarget : s.catchUp.timerTarget = s.timerTarget := by simp [State.timerTarget, htac]
    have hticks : s.catchUp.timerTicks = s.timerTarget := by rw [State.catchUp, if_pos hdue]
    rw [State.catchUp, if_neg (by simp [htarget, hticks])]
  · have hnone : s.catchUp = s := if_neg hdue
    rw [hnone, hnone]

/-- A second read of an address answers what the first did, the side effect of a read of TIMA included (R223). -/
theorem loadByte_afterLoad (s : State) (a : Word) : (s.afterLoad a).loadByte a = s.loadByte a := by
  by_cases ha : a = 0xFF05
  · subst ha
    exact congrArg State.tima (catchUp_catchUp s)
  · rw [afterLoad_of_ne s a ha]

/-- The first fetch with the halt bug leaves PC where it is and clears the latch (R81). -/
theorem afterFetch_of_haltBug {s : State} (h : s.haltBug = true) :
    s.afterFetch = { s.afterLoad s.pc with haltBug := false } := by
  simp [State.afterFetch, h]

theorem afterFetch_of_not_haltBug {s : State} (h : s.haltBug = false) :
    s.afterFetch = { s.afterLoad s.pc with pc := s.pc + 1 } := by
  simp [State.afterFetch, h]

/-- After a fetch the halt bug is over. -/
@[simp] theorem afterFetch_haltBug (s : State) : s.afterFetch.haltBug = false := by
  cases h : s.haltBug
  · simp [afterFetch_of_not_haltBug h, h]
  · simp [afterFetch_of_haltBug h]

@[simp] theorem afterFetch_pc (s : State) : s.afterFetch.pc = if s.haltBug then s.pc else s.pc + 1 := by
  cases h : s.haltBug
  · simp [afterFetch_of_not_haltBug h]
  · simp [afterFetch_of_haltBug h]

/-- With the halt bug the byte after the opcode is read where the opcode was. -/
theorem operand1_of_haltBug {s : State} (h : s.haltBug = true) : s.operand1 = s.opcode := by
  have hbug (u : State) (a : Word) : { u with haltBug := false }.loadByte a = u.loadByte a :=
    loadByte_congr rfl rfl rfl rfl rfl rfl rfl
  rw [State.operand1, afterFetch_pc, if_pos h, afterFetch_of_haltBug h, hbug, loadByte_afterLoad]
  rfl

/-! ## The fetches of an instruction -/

theorem fetchMore_of_not_haltBug (n : Nat) {s : State} (h : s.haltBug = false) :
    (fetchMore n s).haltBug = false ∧ (fetchMore n s).pc = s.pc + BitVec.ofNat 16 n := by
  induction n generalizing s with
  | zero => simpa [fetchMore] using h
  | succ n ih =>
    obtain ⟨hbug, hpc⟩ := ih (afterFetch_haltBug s)
    refine ⟨hbug, hpc.trans ?_⟩
    rw [afterFetch_pc, h, Nat.add_comm n 1, BitVec.ofNat_add, ← BitVec.add_assoc]
    rfl

/-- Settles O6: past the opcode fetch, which alone may meet the halt bug, every fetch advances PC. -/
theorem fetchAdvancesPc : Obligations.FetchAdvancesPc := by
  intro s
  obtain ⟨n, hn⟩ : ∃ n, instrLength s.opcode = n + 1 := by
    obtain h | h | h := instrLength_cases s.opcode <;> exact ⟨_, h⟩
  obtain ⟨hbug, hpc⟩ := fetchMore_of_not_haltBug n (afterFetch_haltBug s.atFetch)
  have hinstr : s.afterInstr = fetchMore n s.atFetch.afterFetch := by rw [State.afterInstr, hn]; rfl
  rw [hinstr, hn]
  refine ⟨hbug, by simp [State.atFetch], fun h => hpc.trans ?_, fun h => ⟨operand1_of_haltBug h, hpc.trans ?_⟩⟩
  · rw [afterFetch_pc, show s.atFetch.haltBug = false from h, Nat.add_comm n 1, BitVec.ofNat_add, ← BitVec.add_assoc]
    rfl
  · rw [afterFetch_pc, show s.atFetch.haltBug = true from h]
    rfl

/-! ## The fetch does not look at the exit request -/

/-- `s` with another countdown to the exit request (R206; log 7). -/
def State.withExit (s : State) (e : Option Nat) : State := { s with exitIn := e }

theorem raiseInterruptIf_withExit (s : State) (e : Option Nat) (p : Bool) (k : Nat) :
    (s.withExit e).raiseInterruptIf p k = (s.raiseInterruptIf p k).withExit e := by
  cases p <;> rfl

theorem catchUp_withExit (s : State) (e : Option Nat) : (s.withExit e).catchUp = s.catchUp.withExit e := by
  by_cases hdue : (timerEnabled s.tac && decide (s.timerTicks < s.timerTarget)) = true
  · have hcatch : s.catchUp = _ := if_pos hdue
    rw [hcatch]
    refine Eq.trans (if_pos hdue) ?_
    exact congrArg (fun u : State => { u with timerTicks := s.timerTarget })
      (raiseInterruptIf_withExit (s.setIo 0x05 _) e _ 2)
  · have hnone : s.catchUp = s := if_neg hdue
    rw [hnone]
    exact if_neg hdue

theorem afterLoad_withExit (s : State) (e : Option Nat) (a : Word) :
    (s.withExit e).afterLoad a = (s.afterLoad a).withExit e := by
  by_cases ha : a = 0xFF05
  · subst ha
    exact catchUp_withExit s e
  · rw [afterLoad_of_ne _ a ha, afterLoad_of_ne s a ha]

theorem loadByte_withExit (s : State) (e : Option Nat) (a : Word) : (s.withExit e).loadByte a = s.loadByte a :=
  loadByte_congr rfl rfl rfl rfl rfl rfl rfl

theorem afterFetch_withExit (s : State) (e : Option Nat) : (s.withExit e).afterFetch = s.afterFetch.withExit e := by
  cases h : s.haltBug
  · rw [afterFetch_of_not_haltBug h, afterFetch_of_not_haltBug (s := s.withExit e) h, afterLoad_withExit]
    rfl
  · rw [afterFetch_of_haltBug h, afterFetch_of_haltBug (s := s.withExit e) h, afterLoad_withExit]
    rfl

theorem fetchMore_withExit (n : Nat) (s : State) (e : Option Nat) :
    fetchMore n (s.withExit e) = (fetchMore n s).withExit e := by
  induction n generalizing s with
  | zero => rfl
  | succ n ih => rw [fetchMore, fetchMore, afterFetch_withExit, ih]

theorem opcode_withExit (s : State) (e : Option Nat) : (s.withExit e).opcode = s.opcode := loadByte_withExit s e s.pc

theorem fetched_withExit (s : State) (e : Option Nat) : (s.withExit e).fetched = s.fetched := by
  have hoperand1 : (s.withExit e).operand1 = s.operand1 := by
    rw [State.operand1, afterFetch_withExit, loadByte_withExit]
    rfl
  have hoperand2 : (s.withExit e).operand2 = s.operand2 := by
    rw [State.operand2, afterFetch_withExit, afterFetch_withExit, loadByte_withExit]
    rfl
  rw [State.fetched, State.fetched, opcode_withExit, hoperand1, hoperand2]

theorem afterInstr_withExit (s : State) (e : Option Nat) : (s.withExit e).afterInstr = s.afterInstr.withExit e := by
  rw [State.afterInstr, State.afterInstr, opcode_withExit, ← fetchMore_withExit]
  rfl

/-! ## The step of a running machine -/

theorem running_iff (s : State) :
    s.running = true ↔ s.exitDue = false ∧ s.fault = none ∧ s.halted = false ∧ s.stopped = false := by
  simp only [State.running, Bool.and_eq_true, Bool.not_eq_true', Option.isNone_iff_eq_none, and_assoc]

/-- At the top of an iteration the exit request draws nearer (R206). -/
theorem atTop_of_awake {s : State} (hh : s.halted = false) (hs : s.stopped = false) :
    s.atTop = s.withExit (if s.slot = 0 then s.exitIn.map (· - 1) else s.exitIn) := by
  by_cases hslot : s.slot = 0
  · simp [State.atTop, State.withExit, hslot, hh, hs]
  · simp [State.atTop, State.withExit, hslot]

/-- Past the stops of `step`, a CPU neither halted nor stopped executes one instruction (R82, R83). -/
theorem step_of_running {s : State} (h : s.running = true) :
    step s = seq (s.withExit (if s.slot = 0 then s.exitIn.map (· - 1) else s.exitIn)).executeOne State.afterSlot := by
  obtain ⟨hexit, hfault, hh, hs⟩ := (running_iff s).mp h
  have hdue : ¬ (s.slot = 0 ∧ s.exitIn = some 0) := by simpa [State.exitDue] using hexit
  have hslot : step s = s.atTop.cpuSlot := by rw [step, State.mainStep, if_neg hdue, hfault]
  rw [hslot, atTop_of_awake hh hs]
  exact if_neg (by simp [State.withExit, hh, hs])

/-- Settles O5: the bytes of the fetch decode to the instruction fetched, and the countdown to the exit request, which
the top of the iteration moves, does not touch the fetch. -/
theorem stepRunsTheDecodedInstruction : Obligations.StepRunsTheDecodedInstruction := by
  intro s i rest hrun hdecode
  have hlength : instrLength s.opcode ≤ [s.operand1, s.operand2].length + 1 := by
    obtain h | h | h := instrLength_cases s.opcode <;> simp [h]
  have hi : s.fetched = i := by
    rw [decode_cons hlength] at hdecode
    cases hdecode
    rfl
  rw [step_of_running hrun, State.executeOne, fetched_withExit, afterInstr_withExit, hi]
  rfl

end Sys2Proof.Machine
end

section
/-! What an instruction takes: its cycles, in which the PPU does not move (30_encoding R83, R84). -/

namespace Sys2Proof.Machine

/-! ## The PPU waits -/

/-- A store without a handler writes no byte of the I/O page that has a special write (R54). -/
theorem ioByte_writePlace_of_not_special {s : State} {a : Word} (ha : (inIoPage a && specialWrite (loByte a)) = false)
    {o : Byte} (ho : specialWrite o = true) (v : Byte) :
    (s.writePlace (s.place a) v).ioByte o.toNat = s.ioByte o.toNat := by
  cases hp : s.place a with
  | disabled => rfl
  | cell b off =>
    by_cases hb : b = .io
    · subst hb
      obtain ⟨hpage, rfl⟩ := ioPage_of_place hp
      refine (ioByte_setIo s _ _ v).trans (if_neg fun h => ?_)
      obtain rfl : o = loByte a := BitVec.eq_of_toNat_eq h
      simp [hpage, ho] at ha
    · have hio := buffer_setBuffer s b .io (Memory.write b (s.buffer b) off v)
      rw [if_neg (Ne.symm hb)] at hio
      exact congrArg (Memory.read .io · o.toNat) hio

theorem stat_setIo {o : Nat} (ho : o ≠ 0x41) (s : State) (v : Byte) : (s.setIo o v).stat = s.stat :=
  (ioByte_setIo s o 0x41 v).trans (if_neg ho.symm)

/-- Of the special writes only STAT's own writes STAT, and it keeps bits 2:0 (R69). -/
theorem lowStat_specialStore (s : State) (o v : Byte) : (s.specialStore o v).stat &&& 7#8 = s.stat &&& 7#8 := by
  have timer {o : Nat} (ho : o ≠ 0x41) (w : Byte) : (s.catchUp.setIo o w).stat &&& 7#8 = s.stat &&& 7#8 := by
    rw [stat_setIo ho, (catchUp_ppuBytes s).2]
  refine specialStore_of_each s o v (P := fun t => t.stat &&& 7#8 = s.stat &&& 7#8) (div := ?_)
    (tima := timer (by decide) v) (tma := timer (by decide) v) (tac := timer (o := 0x07) (by decide) v) (stat := ?_)
    (ly := rfl) (dma := ?_) (stored := fun h41 _ => ?_)
  · exact congrArg (· &&& 7#8) (catchUp_ppuBytes s).2
  · have h : (s.writeStat v).stat = (v &&& 0xF8) ||| (s.stat &&& 0x07) := ioByte_setIo s 0x41 0x41 _
    rw [h]
    simp [BitVec.and_or_distrib_right, BitVec.and_assoc]
  · have h : (s.writeDma v).stat = (s.setIo 0x46 v).stat := by simp [State.stat, State.ioByte, State.writeDma]
    rw [h, stat_setIo (by decide)]
  · rw [stat_setIo fun h => h41 (BitVec.eq_of_toNat_eq h)]

/-- No store changes STAT[2:0] (R69). -/
theorem lowStat_store {s t : State} {a : Word} {v : Byte} (h : s.store a v = .next t) :
    t.stat &&& 7#8 = s.stat &&& 7#8 := by
  obtain hm | rfl | ⟨hplain, rfl⟩ := store_cases h
  · rw [mbcWrite_next hm]
    rfl
  · exact lowStat_specialStore s _ v
  · exact congrArg (· &&& 7#8) (ioByte_writePlace_of_not_special hplain (o := 0x41) rfl v)

/-- From `s` to `t` the PPU does not move: its state and deadline, LY and STAT[2:0] are the same. -/
structure PpuWaits (s t : State) : Prop where
  ppu : t.ppu = s.ppu
  nextTick : t.nextTick = s.nextTick
  ly : t.ly = s.ly
  lowStat : t.stat &&& 7#8 = s.stat &&& 7#8

namespace PpuWaits

theorem trans {s t u : State} (h : PpuWaits s t) (h' : PpuWaits t u) : PpuWaits s u :=
  ⟨h'.ppu.trans h.ppu, h'.nextTick.trans h.nextTick, h'.ly.trans h.ly, h'.lowStat.trans h.lowStat⟩

theorem of_io {s t : State} (hp : t.ppu = s.ppu) (hn : t.nextTick = s.nextTick) (hio : t.io = s.io) : PpuWaits s t where
  ppu := hp
  nextTick := hn
  ly := by simp [State.ly, State.ioByte, hio]
  lowStat := by simp [State.stat, State.ioByte, hio]

theorem store {s t : State} {a : Word} {v : Byte} (h : s.store a v = .next t) : PpuWaits s t where
  ppu := (SamePpu.store h).ppu
  nextTick := by rw [store_next h]
  ly := (SamePpu.store h).ly
  lowStat := lowStat_store h

theorem afterLoad (s : State) (a : Word) : PpuWaits s (s.afterLoad a) where
  ppu := by simp
  nextTick := by simp
  ly := by unfold State.afterLoad; split <;> simp
  lowStat := by unfold State.afterLoad; split <;> simp

theorem afterFetch (s : State) : PpuWaits s s.afterFetch := by
  refine (afterLoad s s.pc).trans ?_
  cases h : s.haltBug
  · rw [afterFetch_of_not_haltBug h]
    exact .of_io rfl rfl rfl
  · rw [afterFetch_of_haltBug h]
    exact .of_io rfl rfl rfl

theorem fetchMore (n : Nat) (s : State) : PpuWaits s (fetchMore n s) := by
  induction n generalizing s with
  | zero => exact .of_io rfl rfl rfl
  | succ n ih => exact (afterFetch s).trans (ih _)

theorem afterInstr (s : State) : PpuWaits s s.afterInstr :=
  have hbegin : PpuWaits s s.atFetch := .of_io rfl rfl rfl
  hbegin.trans (fetchMore _ _)

end PpuWaits

/-! ## The cycles of an operation -/

/-- From `s` to `t`, `n` cycles are charged and the PPU waits. -/
structure RunsFor (n : Nat) (s t : State) : Prop where
  clocks : t.clocks = s.clocks + n
  waits : PpuWaits s t

namespace RunsFor

/-- An update of the CPU alone. The laws of `State` give simp every field, so that `.cpu` proves it of an update written
out. -/
theorem cpu {n : Nat} {s t : State} (clocks : t.clocks = s.clocks + n := by simp) (ppu : t.ppu = s.ppu := by simp)
    (nextTick : t.nextTick = s.nextTick := by simp) (io : t.io = s.io := by simp) : RunsFor n s t :=
  ⟨clocks, .of_io ppu nextTick io⟩

/-- What takes `n` cycles takes them after an operation that takes none. -/
theorem after {n : Nat} {s u t : State} (h : RunsFor 0 s u) (h' : RunsFor n u t) : RunsFor n s t :=
  ⟨h'.clocks.trans (congrArg (· + n) h.clocks), h.waits.trans h'.waits⟩

theorem afterLoad (s : State) (a : Word) : RunsFor 0 s (s.afterLoad a) := ⟨by simp, .afterLoad s a⟩

theorem afterPopByte (s : State) : RunsFor 0 s s.afterPopByte :=
  .after (afterLoad s s.sp) (cpu (t := { s.afterLoad s.sp with sp := s.sp + 1 }))

theorem afterPop (s : State) : RunsFor 0 s s.afterPop := .after (afterPopByte s) (afterPopByte _)

theorem returnToCaller (s : State) : RunsFor 0 s s.returnToCaller :=
  .after (afterPop s) (cpu (t := { s.afterPop with pc := s.popValue }))

theorem returnFromInterrupt (s : State) : RunsFor 0 s s.returnFromInterrupt :=
  .after (returnToCaller s) (cpu (t := { s.returnToCaller with ime := true }))

theorem store (s : State) (a : Word) (v : Byte) : LeadsTo (RunsFor 0) s (s.store a v) :=
  fun _ h => ⟨by rw [store_next h]; rfl, .store h⟩

/-- An operation that takes no cycles, on a state `u` to which none lead, and then one that takes `n`. -/
theorem seq {n : Nat} {s u : State} {r : Result} {k : State → Result} (h : RunsFor 0 s u)
    (hr : LeadsTo (RunsFor 0) u r) (hk : ∀ m, LeadsTo (RunsFor n) m (k m)) : LeadsTo (RunsFor n) s (seq r k) := by
  intro t ht
  obtain ⟨m, hm, ht⟩ := seq_eq_next.mp ht
  exact .after (.after h (hr m hm)) (hk m t ht)

theorem loadReg (r : Reg8) (a : Word) (n : Nat) (s : State) : LeadsTo (RunsFor n) s (loadReg r a n s) :=
  .next (.after (afterLoad s a) .cpu)

theorem loadAndMove (hl : Word) (s : State) : LeadsTo (RunsFor 8) s (loadAndMove hl s) :=
  .next (.after (afterLoad s s.hl) .cpu)

theorem storeThen (s : State) (a : Word) (v : Byte) (n : Nat) : LeadsTo (RunsFor n) s (s.storeThen a v n) :=
  seq .cpu (store s a v) fun _ => .next .cpu

theorem storeAndMove (hl : Word) (s : State) : LeadsTo (RunsFor 8) s (storeAndMove hl s) :=
  seq .cpu (store s _ _) fun _ => .next .cpu

theorem storeWord (s : State) (a v : Word) : LeadsTo (RunsFor 0) s (s.storeWord a v) :=
  seq .cpu (store s _ _) fun m => store m _ _

theorem push (s : State) (v : Word) : LeadsTo (RunsFor 0) s (s.push v) := by
  rw [push_eq]
  exact seq .cpu (store s _ _) fun m => seq .cpu (store m _ _) fun _ => .next .cpu

theorem call (target : Word) (n : Nat) (s : State) : LeadsTo (RunsFor n) s (call target n s) :=
  seq .cpu (push s _) fun _ => .next .cpu

theorem replaceAtHl (s : State) (o : AluOut) (n : Nat) : LeadsTo (RunsFor n) s (s.replaceAtHl o n) :=
  seq (afterLoad s s.hl) (store _ _ _) fun _ => .next .cpu

theorem writeBitMem (v : Bool) (k : Nat) (s : State) : LeadsTo (RunsFor 16) s (writeBitMem v k s) :=
  seq (afterLoad s s.hl) (store _ _ _) fun _ => .next .cpu

end RunsFor

/-! ## Every instruction -/

/-- From `s` to `t`, 4 to 24 cycles are charged, in steps of 4, and the PPU waits. -/
def Charged (s t : State) : Prop := ∃ k, 1 ≤ k ∧ k ≤ 6 ∧ RunsFor (4 * k) s t

theorem LeadsTo.charged {s : State} {r : Result} (k : Nat) (h : LeadsTo (RunsFor (4 * k)) s r)
    (h1 : 1 ≤ k := by decide) (h6 : k ≤ 6 := by decide) : LeadsTo Charged s r :=
  fun t ht => ⟨k, h1, h6, h t ht⟩

/-- Row by row, with the machine cycles of each row (R84). -/
theorem charged_exec {i : Instr} (h : Decoded i) (hi : i ∉ illegalRows.map Prod.snd) (s : State) :
    LeadsTo Charged s (exec i s) := by
  cases h with
  | illegal h => exact absurd (List.mem_map_of_mem h) hi
  | nop => exact .charged 1 (.next .cpu)
  | stop n => exact .charged 1 (.next .cpu)
  | halt => exact .charged 1 (.next .cpu)
  | di => exact .charged 1 (.next .cpu)
  | ei => exact .charged 1 (.next .cpu)
  | ldRegReg dst r => rw [exec_ldRegReg]; exact .charged 1 (.next .cpu)
  | ldRegImm n r => rw [exec_ldRegImm]; exact .charged 2 (.next .cpu)
  | ldRegMem r => rw [exec_ldRegMem]; exact .charged 2 (.loadReg r _ _ s)
  | ldMemReg r => rw [exec_ldMemReg]; exact .charged 2 (.storeThen s _ _ _)
  | ld_mhl_n n => exact .charged 3 (.storeThen s _ _ _)
  | ld_mbc_a => exact .charged 2 (.storeThen s _ _ _)
  | ld_a_mbc => exact .charged 2 (.loadReg .a _ _ s)
  | ld_mde_a => exact .charged 2 (.storeThen s _ _ _)
  | ld_a_mde => exact .charged 2 (.loadReg .a _ _ s)
  | ld_mhli_a => exact .charged 2 (.storeAndMove _ s)
  | ld_a_mhli => exact .charged 2 (.loadAndMove _ s)
  | ld_mhld_a => exact .charged 2 (.storeAndMove _ s)
  | ld_a_mhld => exact .charged 2 (.loadAndMove _ s)
  | ldh_mn_a n => exact .charged 3 (.storeThen s _ _ _)
  | ldh_a_mn n => exact .charged 3 (.loadReg .a _ _ s)
  | ld_mc_a => exact .charged 2 (.storeThen s _ _ _)
  | ld_a_mc => exact .charged 2 (.loadReg .a _ _ s)
  | ld_mnn_a nn => exact .charged 4 (.storeThen s _ _ _)
  | ld_a_mnn nn => exact .charged 4 (.loadReg .a _ _ s)
  | ldPairImm nn r => rw [exec_ldPairImm]; exact .charged 3 (.next .cpu)
  | ld_mnn_sp nn => exact .charged 5 (.seq .cpu (.storeWord s _ _) fun _ => .next .cpu)
  | ld_sp_hl => exact .charged 2 (.next .cpu)
  | ld_hl_spe e => exact .charged 3 (.next .cpu)
  | push q => rw [exec_push]; exact .charged 4 (.seq .cpu (.push s _) fun _ => .next .cpu)
  | pop q => rw [exec_pop]; exact .charged 3 (.next (.after (.afterPop s) .cpu))
  | aluReg op r => rw [exec_aluReg]; exact .charged 1 (.next .cpu)
  | aluMem op => rw [exec_aluMem]; exact .charged 2 (.next (.after (.afterLoad s s.hl) .cpu))
  | aluImm n op => rw [exec_aluImm]; exact .charged 2 (.next .cpu)
  | incReg r => rw [exec_incReg]; exact .charged 1 (.next .cpu)
  | decReg r => rw [exec_decReg]; exact .charged 1 (.next .cpu)
  | inc_mhl => exact .charged 3 (.replaceAtHl s _ _)
  | dec_mhl => exact .charged 3 (.replaceAtHl s _ _)
  | daa => exact .charged 1 (.next .cpu)
  | cpl => exact .charged 1 (.next .cpu)
  | scf => exact .charged 1 (.next .cpu)
  | ccf => exact .charged 1 (.next .cpu)
  | incPair r => rw [exec_incPair]; exact .charged 2 (.next .cpu)
  | decPair r => rw [exec_decPair]; exact .charged 2 (.next .cpu)
  | addHl r => rw [exec_addHl]; exact .charged 2 (.next .cpu)
  | add_sp_e e => exact .charged 4 (.next .cpu)
  | rlca => exact .charged 1 (.next .cpu)
  | rrca => exact .charged 1 (.next .cpu)
  | rla => exact .charged 1 (.next .cpu)
  | rra => exact .charged 1 (.next .cpu)
  | shiftReg op r => rw [exec_shiftReg]; exact .charged 2 (.next .cpu)
  | shiftMem op => rw [exec_shiftMem]; exact .charged 4 (.replaceAtHl s _ _)
  | bitReg k r => rw [exec_bitReg]; exact .charged 2 (.next .cpu)
  | bitMem k => rw [exec_bitMem]; exact .charged 3 (.next (.after (.afterLoad s s.hl) .cpu))
  | resReg k r => rw [exec_resReg]; exact .charged 2 (.next .cpu)
  | resMem k => rw [exec_resMem]; exact .charged 4 (.writeBitMem _ _ s)
  | setReg k r => rw [exec_setReg]; exact .charged 2 (.next .cpu)
  | setMem k => rw [exec_setMem]; exact .charged 4 (.writeBitMem _ _ s)
  | jr_e e => exact .charged 3 (.next .cpu)
  | jrIf e cc => rw [exec_jrIf]; exact .ite (.charged 3 (.next .cpu)) (.charged 2 (.next .cpu))
  | jp_nn nn => exact .charged 4 (.next .cpu)
  | jpIf nn cc => rw [exec_jpIf]; exact .ite (.charged 4 (.next .cpu)) (.charged 3 (.next .cpu))
  | jp_hl => exact .charged 1 (.next .cpu)
  | call_nn nn => exact .charged 6 (.call _ _ s)
  | callIf nn cc => rw [exec_callIf]; exact .ite (.charged 6 (.call _ _ s)) (.charged 3 (.next .cpu))
  | ret => exact .charged 4 (.next (.after (.returnToCaller s) .cpu))
  | retIf cc =>
    rw [exec_retIf]
    exact .ite (.charged 5 (.next (.after (.returnToCaller s) .cpu))) (.charged 2 (.next .cpu))
  | reti => exact .charged 4 (.next (.after (.returnFromInterrupt s) .cpu))
  | rst t => rw [exec_rst]; exact .charged 4 (.call _ _ s)

/-- An undefined opcode takes no cycles (R203). -/
theorem runsFor_zero_exec_illegal {row : Byte × Instr} (h : row ∈ illegalRows) (s : State) :
    LeadsTo (RunsFor 0) s (exec row.2 s) := by
  rw [exec_illegal h]
  exact .next (.cpu (t := { s.emit (.faultReport s.opPc row.1) with fault := some ⟨s.opPc, row.1⟩ }))

/-- The second table has no undefined opcode: its rows have two bytes. -/
theorem decodeCb_not_illegal (op2 : Byte) : decodeCb op2 ∉ illegalRows.map Prod.snd := by
  intro h
  obtain ⟨row, hrow, hcb⟩ := List.mem_map.mp h
  have hcode := (encode_illegal hrow).2
  rw [hcb, (encode_decodeCb op2).2] at hcode
  simp at hcode

/-- Settles O22: an undefined opcode charges nothing, every other row its machine cycles, and the row of the byte 0xCB
those of the row of its second byte. -/
theorem everyInstructionIsCharged : Obligations.EveryInstructionIsCharged := by
  intro i s t h
  split
  · next hi =>
    obtain ⟨row, hrow, rfl⟩ := List.mem_map.mp hi
    exact (runsFor_zero_exec_illegal hrow s t h).clocks
  · next hi =>
    have hcharged : Charged s t := by
      by_cases hp : ∃ op2, i = .prefix_cb op2
      · obtain ⟨op2, rfl⟩ := hp
        rw [(prefixRunsTheSecondTable s op2).1] at h
        exact charged_exec (decoded_decodeCb op2) (decodeCb_not_illegal op2) s t h
      · exact charged_exec (decoded_of_ne_prefix_cb (not_exists.mp hp)) hi s t h
    obtain ⟨k, h1, h6, hrun⟩ := hcharged
    exact ⟨k, h1, h6, hrun.clocks⟩

/-! ## Inside a batch -/

namespace PpuWaits

/-- Every instruction that the decoder answers leaves the PPU alone. -/
theorem exec {i : Instr} (h : Decoded i) (s : State) : LeadsTo PpuWaits s (exec i s) := by
  intro t ht
  by_cases hi : i ∈ illegalRows.map Prod.snd
  · obtain ⟨row, hrow, rfl⟩ := List.mem_map.mp hi
    exact (runsFor_zero_exec_illegal hrow s t ht).waits
  · obtain ⟨_, _, _, hrun⟩ := charged_exec h hi s t ht
    exact hrun.waits

theorem executeOne (s : State) : LeadsTo PpuWaits s s.executeOne :=
  fun t h => (afterInstr s).trans (exec (decoded_decodeBytes _ _ _) _ t h)

theorem atTop (s : State) : PpuWaits s s.atTop := by
  unfold State.atTop
  dsimp only
  split
  · split
    · exact .of_io rfl rfl rfl
    · exact .of_io rfl rfl rfl
  · exact .of_io rfl rfl rfl

end PpuWaits

/-- A push does not move the slot. -/
theorem push_slot {s t : State} {v : Word} (h : s.push v = .next t) : t.slot = s.slot := by
  rw [push_eq] at h
  obtain ⟨m, hm, h⟩ := seq_eq_next.mp h
  obtain ⟨u, hu, h⟩ := seq_eq_next.mp h
  cases h
  show u.slot = s.slot
  rw [store_next hu, store_next hm]

theorem serviceInterrupt_slot {s t : State} {k : Nat} (h : s.serviceInterrupt k = .next t) : t.slot = s.slot := by
  obtain ⟨m, hm, ht⟩ := seq_eq_next.mp h
  cases ht
  exact push_slot (s := { s.setIo 0x0F (withBit s.ifReg k false) with ime := false }) (t := m) hm

theorem interruptStep_slot {s t : State} (h : s.interruptStep = .next t) : t.slot = s.slot := by
  unfold State.interruptStep at h
  split at h
  · cases h
    rfl
  split at h
  · exact serviceInterrupt_slot (s := { s with halted := false }) h
  · cases h
    rfl

/-- The end of an iteration leads to the first slot of the next one (R204). -/
theorem endIteration_slot {s t : State} (h : s.endIteration = .next t) : t.slot = 0 := by
  rw [interruptStep_slot h]
  simp [State.timerStep]

/-- After an instruction that does not end the batch only the slot moves on (R83). -/
theorem afterSlot_of_slot_ne_zero {s t : State} (h : s.afterSlot = .next t) (ht : t.slot ≠ 0) :
    t = { s with slot := s.slot + 1 } := by
  unfold State.afterSlot at h
  split at h
  · cases h
    exact absurd rfl ht
  split at h
  · exact absurd (endIteration_slot h) ht
  · cases h
    rfl

/-- A slot of the CPU step that does not end the batch leaves the PPU alone. -/
theorem cpuSlot_of_slot_ne_zero {s t : State} (h : s.cpuSlot = .next t) (ht : t.slot ≠ 0) : PpuWaits s t := by
  unfold State.cpuSlot at h
  split at h
  · exact absurd (endIteration_slot h) ht
  · obtain ⟨u, hu, h⟩ := seq_eq_next.mp h
    rw [afterSlot_of_slot_ne_zero h ht]
    exact (PpuWaits.executeOne s u hu).trans (.of_io rfl rfl rfl)

/-- Settles O7: every end of a batch leads to slot 0, and before it only instructions run. -/
theorem unitsWaitForTheBatch : Obligations.UnitsWaitForTheBatch := by
  intro s t h ht
  unfold step State.mainStep at h
  split at h
  · cases h
  split at h
  · cases h
  · obtain ⟨hppu, hnext, hly, hstat⟩ := (PpuWaits.atTop s).trans (cpuSlot_of_slot_ne_zero h ht)
    exact ⟨hppu, hnext, hly, hstat⟩

end Sys2Proof.Machine
end

section
/-! What a change of the CPU's registers leaves alone: the rules for the frames of the instructions. -/

namespace Sys2Proof.Machine

/-! ## Outside the CPU -/

theorem SameElsewhere.refl (s : State) : SameElsewhere s s := by
  simp [SameElsewhere, SameMemory, SameUnits, SameHost, SameLatches]

@[simp] theorem sameElsewhere_tick (s t : State) (n : Nat) : SameElsewhere s (t.tick n) ↔ SameElsewhere s t := Iff.rfl

@[simp] theorem sameElsewhere_set8 (s t : State) (r : Reg8) (v : Byte) :
    SameElsewhere s (t.set8 r v) ↔ SameElsewhere s t := by
  cases r <;> exact Iff.rfl

@[simp] theorem sameElsewhere_set16 (s t : State) (rr : Reg16) (v : Word) :
    SameElsewhere s (t.set16 rr v) ↔ SameElsewhere s t := by
  cases rr <;> exact Iff.rfl

@[simp] theorem sameElsewhere_setStack (s t : State) (q : StackReg) (v : Word) :
    SameElsewhere s (t.setStack q v) ↔ SameElsewhere s t := by
  cases q <;> exact Iff.rfl

/-! ## The registers -/

theorem SameRegsBut.trans {rs rs' : List Reg8} {s t u : State} (h : SameRegsBut rs s t) (h' : SameRegsBut rs' t u) :
    SameRegsBut (rs ++ rs') s u := by
  intro q hq
  rw [List.mem_append, not_or] at hq
  exact (h' q hq.2).trans (h q hq.1)

theorem sameRegsBut_tick (s : State) (n : Nat) : SameRegsBut [] s (s.tick n) := fun _ _ => rfl

theorem sameRegsBut_set8 (s : State) (r : Reg8) (v : Byte) : SameRegsBut [r] s (s.set8 r v) := fun q hq =>
  (get8_set8 s r q v).trans (if_neg fun h => hq (List.mem_singleton.mpr h))

/-- A write of HL is a write of H and of L (R21). -/
theorem sameRegsBut_setHl (s : State) (v : Word) : SameRegsBut [.h, .l] s (s.setHl v) :=
  (sameRegsBut_set8 s .h (hiByte v)).trans (sameRegsBut_set8 _ .l (loByte v))

/-- A write of a pair is a write of its halves (R21). -/
theorem sameRegsBut_set16 (s : State) (rr : Reg16) (v : Word) : SameRegsBut (halves rr) s (s.set16 rr v) :=
  match rr with
  | .bc => (sameRegsBut_set8 s .b (hiByte v)).trans (sameRegsBut_set8 _ .c (loByte v))
  | .de => (sameRegsBut_set8 s .d (hiByte v)).trans (sameRegsBut_set8 _ .e (loByte v))
  | .hl => sameRegsBut_setHl s v
  | .sp => fun _ _ => rfl

/-- A popped pair is written half by half; of AF, only A is a general register (R113). -/
theorem sameRegsBut_setStack (s : State) (q : StackReg) (v : Word) : SameRegsBut (stackHalves q) s (s.setStack q v) :=
  match q with
  | .bc => sameRegsBut_set16 s .bc v
  | .de => sameRegsBut_set16 s .de v
  | .hl => sameRegsBut_setHl s v
  | .af => sameRegsBut_set8 s .a (hiByte v)

theorem sameRegsBut_afterLoad (s : State) (a : Word) : SameRegsBut [] s (s.afterLoad a) := by
  simp [sameRegsBut_nil_iff]

theorem sameRegsBut_afterPop (s : State) : SameRegsBut [] s s.afterPop := by
  simp [sameRegsBut_nil_iff]

/-- A pair reads as the word written to it (R21). -/
theorem get16_set16 (s : State) (rr : Reg16) (v : Word) : (s.set16 rr v).get16 rr = v :=
  match rr with
  | .bc => word_hiByte_loByte v
  | .de => word_hiByte_loByte v
  | .hl => word_hiByte_loByte v
  | .sp => rfl

theorem hl_setHl (s : State) (v : Word) : (s.setHl v).hl = v := word_hiByte_loByte v

/-- A popped pair reads as the word popped; AF does not, for its F[3:0] is cleared (R113). -/
theorem getStack_setStack {q : StackReg} (hq : q ≠ .af) (s : State) (v : Word) : (s.setStack q v).getStack q = v := by
  cases q with
  | bc => exact word_hiByte_loByte v
  | de => exact word_hiByte_loByte v
  | hl => exact word_hiByte_loByte v
  | af => exact absurd rfl hq

/-- Only POP AF writes F (R113). -/
theorem setStack_f {q : StackReg} (hq : q ≠ .af) (s : State) (v : Word) : (s.setStack q v).f = s.f := by
  cases q with
  | bc => rfl
  | de => rfl
  | hl => rfl
  | af => exact absurd rfl hq

/-! ## A form that reads a byte (R64) -/

/-- The timer's catch-up writes TIMA and IF only (R222). -/
theorem rawRead_catchUp {s : State} {a : Word} (htima : s.place a ≠ .cell .io 0x05) (hif : s.place a ≠ .cell .io 0x0F) :
    s.catchUp.rawRead a = s.rawRead a := by
  have hplace : s.catchUp.place a = s.place a := place_congr (by simp) (by simp) (by simp) a
  rw [State.rawRead, State.rawRead, hplace]
  cases hp : s.place a with
  | disabled => rfl
  | cell b off =>
    by_cases hb : b = .io
    · subst hb
      exact ioByte_catchUp s off (fun h => htima (h ▸ hp)) (fun h => hif (h ▸ hp))
    · have hbuf : s.catchUp.buffer b = s.buffer b := by cases b <;> simp_all [State.buffer]
      rw [State.readPlace, State.readPlace, hbuf]

/-- The frame of a form that reads the byte at `a`, in one case: outside the CPU it leaves what the read leaves. -/
theorem LoadFrame.of_afterLoad {rs : List Reg8} {n : Nat} {a : Word} {s t : State} (hregs : SameRegsBut rs s t)
    (hsp : t.sp = s.sp) (hpc : t.pc = s.pc) (hclocks : t.clocks = s.clocks + n)
    (helse : SameElsewhere (s.afterLoad a) t) : LoadFrame rs n a s t := by
  refine ⟨hregs, hsp, hpc, hclocks, fun ha => ?_, fun ha => ?_, fun x hx hx' => ?_⟩
  · rwa [afterLoad_of_ne s a ha] at helse
  · subst ha
    exact helse
  · obtain ⟨⟨-, -, -, -, hread⟩, -⟩ := helse
    rw [hread]
    by_cases ha : a = 0xFF05
    · subst ha
      exact rawRead_catchUp hx hx'
    · rw [afterLoad_of_ne s a ha]

/-! ## A form that stores a byte (R56) -/

theorem StoreFrame.trans {rs : List Reg8} {n k : Nat} {s m t : State} (h : StoreFrame [] n s m)
    (h' : StoreFrame rs k m t) : StoreFrame rs (n + k) s t := by
  obtain ⟨hregs, hclocks, hlatches, hrest⟩ := h
  obtain ⟨hregs', hclocks', hlatches', hrest'⟩ := h'
  refine ⟨hregs.trans hregs', by rw [hclocks', hclocks, Nat.add_assoc], ?_, ?_⟩
  · simp_all [SameLatches]
  · simp_all

theorem StoreFrame.of_elsewhere {rs : List Reg8} {n : Nat} {s t : State} (hregs : SameRegsBut rs s t)
    (hclocks : t.clocks = s.clocks + n) (helse : SameElsewhere s t) : StoreFrame rs n s t := by
  obtain ⟨hmem, ⟨hppu, htick, -⟩, ⟨hcfg, hkeys, hkeysIn, hkeysSeen, hexit, -, hslot⟩, hlatches⟩ := helse
  exact ⟨hregs, hclocks, hlatches, hppu, htick, hmem.1 .rom, hcfg, hkeys, hkeysIn, hkeysSeen, hexit, hslot⟩

/-- The frame of a form that stores and then writes registers and charges its cycles. -/
theorem StoreFrame.andThen {rs : List Reg8} {n : Nat} {s m t : State} (h : StoreFrame [] 0 s m)
    (hregs : SameRegsBut rs m t) (hclocks : t.clocks = m.clocks + n) (helse : SameElsewhere m t) :
    StoreFrame rs n s t := by
  simpa using h.trans (.of_elsewhere hregs hclocks helse)

/-- A byte store touches no register and no latch. -/
theorem store_frame {s t : State} {a : Word} {v : Byte} (h : s.store a v = .next t) :
    t.f = s.f ∧ t.sp = s.sp ∧ t.pc = s.pc ∧ StoreFrame [] 0 s t := by
  rw [store_next h]
  simp [StoreFrame, sameRegsBut_nil_iff, SameLatches]

theorem SameElsewhere.sameBus {m t : State} (h : SameElsewhere m t) : SameBus m t := by
  obtain ⟨hmem, hunits, ⟨-, -, -, -, -, hout, -⟩, -⟩ := h
  exact ⟨hmem, hunits, hout⟩

/-- The disabled area discards a store (R51). -/
theorem store_of_disabled {s : State} {a : Word} (h : s.place a = .disabled) (v : Byte) : s.store a v = .next s := by
  have hwindow : 0xA000 ≤ a.toNat ∧ a.toNat < 0xC000 := by
    simp only [State.place] at h
    repeat' split at h
    all_goals cases h
    omega
  have hio : inIoPage a = false := inIoPage_eq_false (by omega)
  simp [State.store, show ¬ a.toNat < 0x8000 by omega, hio, h, State.writePlace]

/-- What `Stored` says in its own words of a store follows from the store. -/
theorem Stored.of_store {s m t : State} {a : Word} {v : Byte} (h : s.store a v = .next m) (hbus : SameBus m t) :
    Stored a v s t := by
  have ⟨⟨hbuf, _, _, _, hread⟩, _⟩ := hbus
  refine ⟨⟨m, h, hbus⟩, fun ha b => ?_, fun ha => ?_, fun ha => ?_⟩
  · rw [hbuf, (writeBelow8000IsTheControllers s m a v ha h).1]
  · obtain ⟨u, hu, hv, -, hother, -⟩ := plainStoreReadsBack s a v ha
    cases hu.symm.trans h
    exact ⟨by rw [hread, hv], fun a' ha' => by rw [hread, hother a' ha']⟩
  · cases (store_of_disabled ha v).symm.trans h
    exact hbus

/-- Two stores, each in the words of `Stored`. -/
theorem StoredTwo.of_stores {s m1 m2 t : State} {a1 a2 : Word} {v1 v2 : Byte} (h1 : s.store a1 v1 = .next m1)
    (h2 : m1.store a2 v2 = .next m2) (hbus : SameBus m2 t) : StoredTwo a1 v1 a2 v2 s t := by
  refine ⟨⟨m1, m2, h1, h2, hbus⟩, fun hs1 hs2 => ?_⟩
  cases (store_of_storesAt hs1 v1).symm.trans h1
  obtain ⟨-, -, hfirst, -⟩ := Stored.of_store h1 (SameElsewhere.refl _).sameBus
  obtain ⟨-, -, hsecond, -⟩ := Stored.of_store h2 hbus
  obtain ⟨hv1, hother1⟩ := hfirst hs1
  obtain ⟨hv2, hother2⟩ := hsecond ((storesAt_writePlace ..).trans hs2)
  simp only [place_writePlace] at hother2
  exact ⟨fun hne => (hother2 a1 hne).trans hv1, hv2, fun a' hne1 hne2 => (hother2 a' hne2).trans (hother1 a' hne1)⟩

/-- A push is two stores, at SP - 1 and then at SP - 2, with SP moved there (R62). -/
theorem Pushed.of_push {s m t : State} {v : Word} (h : s.push v = .next m) (hsp : t.sp = m.sp)
    (helse : SameElsewhere m t) : Pushed v s t := by
  rw [push_eq] at h
  obtain ⟨m1, h1, h⟩ := seq_eq_next.mp h
  obtain ⟨m2, h2, h⟩ := seq_eq_next.mp h
  cases h
  exact ⟨hsp, .of_stores h1 h2 helse.sameBus⟩

/-- A push touches no register but SP, and no latch. -/
theorem push_frame {s m : State} {v : Word} (h : s.push v = .next m) :
    m.f = s.f ∧ m.pc = s.pc ∧ StoreFrame [] 0 s m := by
  rw [push_eq] at h
  obtain ⟨m1, h1, h⟩ := seq_eq_next.mp h
  obtain ⟨m2, h2, h⟩ := seq_eq_next.mp h
  cases h
  obtain ⟨hf1, -, hpc1, hframe1⟩ := store_frame h1
  obtain ⟨hf2, -, hpc2, hframe2⟩ := store_frame h2
  exact ⟨hf2.trans hf1, hpc2.trans hpc1, hframe1.trans hframe2⟩

end Sys2Proof.Machine
end

section
/-! The loads and stores of a register, a pair or a byte (40_loads R92 to R109, R111). -/

namespace Sys2Proof.Machine

/-! ## Without a bus access -/

/-- A write of one register, with its cycles. -/
theorem onlyRegs_set8 (s : State) (r : Reg8) (v : Byte) (n : Nat) : OnlyRegs [r] n s ((s.set8 r v).tick n) :=
  ⟨sameRegsBut_set8 s r v, by simp, by simp, by simp, by simpa using SameElsewhere.refl s⟩

/-- A write of a pair, with its cycles. -/
theorem onlyPair_set16 (s : State) (rr : Reg16) (v : Word) (n : Nat) : OnlyPair rr n s ((s.set16 rr v).tick n) := by
  refine ⟨sameRegsBut_set16 s rr v, fun hrr => ?_, by simp, by simp, by simpa using SameElsewhere.refl s⟩
  cases rr with
  | bc => rfl
  | de => rfl
  | hl => rfl
  | sp => exact absurd rfl hrr

theorem encode_ldRegReg (r r' : Reg8) : encode (.ldRegReg r r') = [1#2 ++ regCode r ++ regCode r'] := by
  cases r <;> cases r' <;> rfl

theorem encode_ldRegImm (n : Byte) (r : Reg8) : encode (.ldRegImm n r) = [0#2 ++ regCode r ++ 6#3, n] := by
  cases r <;> rfl

theorem encode_ldPairImm (nn : Word) (rr : Reg16) :
    encode (.ldPairImm nn rr) = (0#2 ++ pairCode rr ++ 1#4) :: immBytes nn := by
  cases rr <;> rfl

/-- Settles O39: each form is one write of its register or pair, and no other register reads it. -/
theorem registerAndImmediateLoads : Obligations.RegisterAndImmediateLoads := by
  intro s
  refine ⟨fun r r' => ⟨encode_ldRegReg r r', _, exec_ldRegReg r r' s, ?_, by simp, onlyRegs_set8 s r _ 4⟩,
    fun n r => ⟨encode_ldRegImm n r, _, exec_ldRegImm n r s, ?_, by simp, onlyRegs_set8 s r n 8⟩,
    fun nn rr => ⟨encode_ldPairImm nn rr, _, exec_ldPairImm nn rr s, get16_set16 s rr nn, by simp,
      onlyPair_set16 s rr nn 12⟩,
    rfl, _, rfl, rfl, rfl, onlyPair_set16 s .sp s.hl 8⟩
  · exact (get8_set8 s r r _).trans (if_pos rfl)
  · exact (get8_set8 s r r n).trans (if_pos rfl)

/-! ## Byte loads -/

/-- An instruction that runs `loadReg` is a byte load. -/
theorem loads_of_exec {i : Instr} {code : List Byte} {r : Reg8} {a : Word} {n : Nat} {s : State} (hcode : encode i = code)
    (hexec : exec i s = loadReg r a n s) : Loads i code r a n s := by
  refine ⟨hcode, _, hexec, ?_, by simp, .of_afterLoad ?_ (by simp) (by simp) (by simp) ?_⟩
  · exact (get8_set8 _ r r _).trans (if_pos rfl)
  · exact (sameRegsBut_afterLoad s a).trans (sameRegsBut_set8 _ r _)
  · simpa using SameElsewhere.refl _

theorem encode_ldRegMem (r : Reg8) : encode (.ldRegMem r) = [1#2 ++ regCode r ++ 6#3] := by
  cases r <;> rfl

/-- Settles O40: each row runs `loadReg` at its own address. -/
theorem byteLoads : Obligations.ByteLoads := by
  intro s
  simp only [← ioAddress_eq_add]
  exact ⟨fun r => loads_of_exec (encode_ldRegMem r) (exec_ldRegMem r s), loads_of_exec rfl rfl, loads_of_exec rfl rfl,
    fun _ => loads_of_exec rfl rfl, fun _ => loads_of_exec rfl rfl, loads_of_exec rfl rfl⟩

/-! ## Byte stores -/

/-- An instruction that runs `storeThen` is a byte store. -/
theorem stores_of_exec {i : Instr} {code : List Byte} {a : Word} {v : Byte} {n : Nat} {s : State} (h : s.cfg.wf = true)
    (hcode : encode i = code) (hexec : exec i s = s.storeThen a v n) : Stores i code a v n s := by
  obtain ⟨m, hm⟩ := store_total h a v
  obtain ⟨hf, hsp, hpc, hframe⟩ := store_frame hm
  have helse : SameElsewhere m (m.tick n) := .refl m
  exact ⟨hcode, m.tick n, hexec.trans (seq_eq_next.mpr ⟨m, hm, rfl⟩), .of_store hm helse.sameBus, hf, hsp, hpc,
    hframe.andThen (sameRegsBut_tick m n) rfl helse⟩

theorem encode_ldMemReg (r : Reg8) : encode (.ldMemReg r) = [1#2 ++ 6#3 ++ regCode r] := by
  cases r <;> rfl

/-- Settles O41: each row runs `storeThen` with its own address and byte. -/
theorem byteStores : Obligations.ByteStores := by
  intro s h
  simp only [← ioAddress_eq_add]
  exact ⟨fun r => stores_of_exec h (encode_ldMemReg r) (exec_ldMemReg r s), fun _ => stores_of_exec h rfl rfl,
    stores_of_exec h rfl rfl, stores_of_exec h rfl rfl, fun _ => stores_of_exec h rfl rfl,
    fun _ => stores_of_exec h rfl rfl, stores_of_exec h rfl rfl⟩

/-! ## The forms that move HL -/

/-- The load at HL that then moves HL: what it writes, and its frame (R105, R106). -/
theorem loadAndMove_spec (hl : Word) (s : State) :
    ∃ t, loadAndMove hl s = .next t ∧ t.a = s.loadByte s.hl ∧ t.hl = hl ∧ t.f = s.f ∧
      LoadFrame [.a, .h, .l] 8 s.hl s t := by
  have hregs := (sameRegsBut_set8 (s.afterLoad s.hl) .a (s.loadByte s.hl)).trans (sameRegsBut_setHl _ hl)
  exact ⟨_, rfl, rfl, hl_setHl (s.afterLoad s.hl) hl, by simp, .of_afterLoad
    ((sameRegsBut_afterLoad s s.hl).trans hregs) (by simp) (by simp) (by simp) (SameElsewhere.refl (s.afterLoad s.hl))⟩

/-- The store at HL that then moves HL (R107, R108). -/
theorem storeAndMove_spec {s : State} (h : s.cfg.wf = true) (hl : Word) :
    ∃ t, storeAndMove hl s = .next t ∧ Stored s.hl s.a s t ∧ t.hl = hl ∧ t.f = s.f ∧ t.sp = s.sp ∧ t.pc = s.pc ∧
      StoreFrame [.h, .l] 8 s t := by
  obtain ⟨m, hm⟩ := store_total h s.hl s.a
  obtain ⟨hf, hsp, hpc, hframe⟩ := store_frame hm
  have helse : SameElsewhere m ((m.setHl hl).tick 8) := .refl m
  exact ⟨(m.setHl hl).tick 8, seq_eq_next.mpr ⟨m, hm, rfl⟩, .of_store hm helse.sameBus, hl_setHl m hl, hf, hsp, hpc,
    hframe.andThen (sameRegsBut_setHl m hl) rfl helse⟩

/-- Settles O42: the access is at the HL of `s`, and the new HL is computed from it. -/
theorem hlMovesAfterTheAccess : Obligations.HlMovesAfterTheAccess := fun s =>
  ⟨rfl, rfl, rfl, rfl, loadAndMove_spec (s.hl + 1) s, loadAndMove_spec (s.hl - 1) s,
    fun h => ⟨storeAndMove_spec h (s.hl + 1), storeAndMove_spec h (s.hl - 1)⟩⟩

end Sys2Proof.Machine
end

section
/-! The stores of a word and the stack (40_loads R110, R112, R113). -/

namespace Sys2Proof.Machine

/-! ## LD (nn),SP and PUSH -/

theorem encode_push (q : StackReg) : encode (.push q) = [3#2 ++ stackCode q ++ 5#4] := by
  cases q <;> rfl

/-- LD (nn),SP is two stores, at nn and then at nn + 1 (R61, R110). -/
theorem exec_ld_mnn_sp_spec {s : State} (h : s.cfg.wf = true) (nn : Word) :
    ∃ t, exec (.ld_mnn_sp nn) s = .next t ∧ StoredTwo nn (loByte s.sp) (nn + 1) (hiByte s.sp) s t ∧
      t.f = s.f ∧ t.sp = s.sp ∧ t.pc = s.pc ∧ StoreFrame [] 20 s t := by
  obtain ⟨m1, h1⟩ := store_total h nn (loByte s.sp)
  obtain ⟨m2, h2⟩ := store_total (s := m1) (by rwa [store_cfg h1]) (nn + 1) (hiByte s.sp)
  obtain ⟨hf1, hsp1, hpc1, hframe1⟩ := store_frame h1
  obtain ⟨hf2, hsp2, hpc2, hframe2⟩ := store_frame h2
  have helse : SameElsewhere m2 (m2.tick 20) := .refl m2
  have hword : s.storeWord nn s.sp = .next m2 := seq_eq_next.mpr ⟨m1, h1, h2⟩
  exact ⟨m2.tick 20, seq_eq_next.mpr ⟨m2, hword, rfl⟩, .of_stores h1 h2 helse.sameBus, hf2.trans hf1, hsp2.trans hsp1,
    hpc2.trans hpc1, (hframe1.trans hframe2).andThen (sameRegsBut_tick m2 20) rfl helse⟩

/-- PUSH is a push of its pair (R112). -/
theorem pushPair_spec {s : State} (h : s.cfg.wf = true) (q : StackReg) :
    ∃ t, pushPair q s = .next t ∧ Pushed (s.getStack q) s t ∧ t.f = s.f ∧ t.pc = s.pc ∧ StoreFrame [] 16 s t := by
  obtain ⟨m, hm⟩ := push_total h (s.getStack q)
  obtain ⟨hf, hpc, hframe⟩ := push_frame hm
  have helse : SameElsewhere m (m.tick 16) := .refl m
  exact ⟨m.tick 16, seq_eq_next.mpr ⟨m, hm, rfl⟩, .of_push hm rfl helse, hf, hpc,
    hframe.andThen (sameRegsBut_tick m 16) rfl helse⟩

/-- The low nibble of a word is that of its low byte. -/
theorem word_and_low (hi lo : Byte) : word hi lo &&& 0x000F = word 0 (lo &&& 0x0F) := by
  have h : hi ++ lo &&& 0#8 ++ 0x0F#8 = (hi &&& 0#8) ++ (lo &&& 0x0F#8) := BitVec.and_append
  rwa [BitVec.and_zero] at h

/-- Settles O43: the two stores are those of `storeWord` and of the push; the low nibble of AF is that of F. -/
theorem wordStoresAndPush : Obligations.WordStoresAndPush := by
  intro s h
  refine ⟨fun nn => ⟨rfl, exec_ld_mnn_sp_spec h nn⟩, fun q => ⟨encode_push q, ?_⟩, fun hf => ?_⟩
  · rw [exec_push]
    exact pushPair_spec h q
  · have hlow : s.f &&& 0x0F = 0 := by simpa [State.flagsWf] using hf
    show word s.a s.f &&& 0x000F = 0
    rw [word_and_low, hlow]
    rfl

/-! ## POP -/

theorem encode_pop (q : StackReg) : encode (.pop q) = [3#2 ++ stackCode q ++ 1#4] := by
  cases q <;> rfl

/-- The bus does not look at SP (R62). -/
theorem loadByte_sp (s : State) (v a : Word) : { s with sp := v }.loadByte a = s.loadByte a :=
  loadByte_congr rfl rfl rfl rfl rfl rfl rfl

theorem catchUp_sp (s : State) (v : Word) : { s with sp := v }.catchUp = { s.catchUp with sp := v } := by
  have h := catchUp_withCpu s { s with sp := v }
  refine h.trans ?_
  apply State.ext <;> simp [State.withCpu]

theorem afterLoad_sp (s : State) (v a : Word) : { s with sp := v }.afterLoad a = { s.afterLoad a with sp := v } := by
  by_cases ha : a = 0xFF05
  · subst ha
    exact catchUp_sp s v
  · rw [afterLoad_of_ne _ a ha, afterLoad_of_ne s a ha]

/-- The word popped is the two bytes read, the second above the first (R62). -/
theorem popValue_eq (s : State) : s.popValue = word s.popHigh s.popLow := by
  rw [State.popValue, afterPopByte_sp, State.afterPopByte, loadByte_sp]
  rfl

/-- A pop is two reads, with SP moved past them (R62). -/
theorem afterPop_eq (s : State) :
    s.afterPop = { (s.afterLoad s.sp).afterLoad (s.sp + 1) with sp := s.sp + 2 } := by
  rw [State.afterPop, State.afterPopByte, afterPopByte_sp, State.afterPopByte, afterLoad_sp, BitVec.add_assoc]
  rfl

/-- The frame of a form that pops, in one case: outside the CPU it leaves what the two reads leave. -/
theorem PopFrame.of_afterPop {n : Nat} {s t : State} (hsp : t.sp = s.sp + 2) (hclocks : t.clocks = s.clocks + n)
    (helse : SameMemory s.afterPop t ∧ SameUnits s.afterPop t ∧ SameHost s.afterPop t) : PopFrame n s t := by
  rw [afterPop_eq] at helse
  refine ⟨hsp, hclocks, fun h1 h2 => ?_, fun h => ?_⟩
  · rw [afterLoad_of_ne s _ h1, afterLoad_of_ne s _ h2] at helse
    exact helse
  · have htimaOnce : (s.afterLoad s.sp).afterLoad (s.sp + 1) = s.catchUp := by
      obtain h | h := h
      · rw [afterLoad_of_ne _ (s.sp + 1) (by rw [h]; decide), h]
        rfl
      · rw [afterLoad_of_ne s s.sp (by bv_omega), h]
        rfl
    rw [htimaOnce] at helse
    exact helse

/-- POP AF takes the four flags from bits 7:4 of the low byte (R23, R113). -/
theorem setStack_af_flags (s : State) (hi lo : Byte) :
    (s.setStack .af (word hi lo)).flagZ = lo.getLsbD 7 ∧ (s.setStack .af (word hi lo)).flagN = lo.getLsbD 6 ∧
      (s.setStack .af (word hi lo)).flagH = lo.getLsbD 5 ∧ (s.setStack .af (word hi lo)).flagC = lo.getLsbD 4 ∧
      (s.setStack .af (word hi lo)).f &&& 0x0F = 0 := by
  simp [State.setStack, State.flagZ, State.flagN, State.flagH, State.flagC, BitVec.and_assoc]

/-- Settles O44: the pair is written with the word of the two reads. -/
theorem popReadsTheStack : Obligations.PopReadsTheStack := by
  intro s q
  have helse : SameElsewhere s.afterPop ((s.afterPop.setStack q s.popValue).tick 12) := by
    simpa using SameElsewhere.refl s.afterPop
  have hregs : SameRegsBut (stackHalves q) s ((s.afterPop.setStack q s.popValue).tick 12) :=
    (sameRegsBut_afterPop s).trans (sameRegsBut_setStack s.afterPop q s.popValue)
  obtain ⟨hmem, hunits, hhost, -⟩ := helse
  refine ⟨encode_pop q, _, exec_pop q s, fun hq => ?_, fun hq => ?_, by simp, by simp [SameLatches],
    .of_afterPop (by simp) (by simp) ⟨hmem, hunits, hhost⟩⟩
  · exact ⟨(getStack_setStack hq _ _).trans (popValue_eq s), (setStack_f hq _ _).trans (by simp), hregs⟩
  · subst hq
    refine ⟨(congrArg hiByte (popValue_eq s)).trans (hiByte_word _ _), hregs, ?_⟩
    rw [popValue_eq]
    exact setStack_af_flags s.afterPop _ _

end Sys2Proof.Machine
end

section
/-! Words of the opcode tables, written out (a sanity statement). -/

namespace Sys2Proof.Machine

/-- Settles O4: each word is what the encoder writes, so the decoder reads the instruction back from it. -/
theorem knownWordsDecode : Obligations.KnownWordsDecode :=
  ⟨decodeOfEncode (.ld_a_n 0x5A) [] rfl, decodeOfEncode (.ld_sp_nn 0xDFFF) [] rfl, decodeOfEncode .halt [] rfl,
    decodeOfEncode .sbc_a_h [] rfl, decodeOfEncode .add_hl_sp [] rfl, decodeOfEncode .bit_4_l [] rfl,
    decodeOfEncode .rr_mhl [] rfl, decodeOfEncode (.call_c_nn 0x1234) [] rfl, decodeOfEncode (.jr_c_e 0xFB) [] rfl,
    decodeOfEncode .illegal_d3 [] rfl⟩

end Sys2Proof.Machine
end

section
/-! What a change of the accumulator and of the flags leaves alone: the rules for the frames of the arithmetic forms. -/

namespace Sys2Proof.Machine

/-! ## The flags (10_state R23, R24) -/

theorem getLsbD_packFlags (z n h c : Bool) (low : BitVec 4) :
    (packFlags z n h c low).getLsbD 7 = z ∧ (packFlags z n h c low).getLsbD 6 = n ∧
      (packFlags z n h c low).getLsbD 5 = h ∧ (packFlags z n h c low).getLsbD 4 = c := by
  simp only [packFlags, BitVec.getLsbD_append]
  simp

/-- The four flags are read where they are written, and F[3:0] stays (R23, R24). -/
theorem FlagsAre.of_f {s t : State} {z n h c : Bool} (hf : t.f = packFlags z n h c (s.f.extractLsb' 0 4)) :
    FlagsAre s t z n h c := by
  obtain ⟨hz, hn, hh, hc⟩ := getLsbD_packFlags z n h c (s.f.extractLsb' 0 4)
  rw [← hf] at hz hn hh hc
  exact ⟨hz, hn, hh, hc, hf ▸ packFlags_and_low z n h c s.f⟩

/-- A write of flags touches no general register. -/
theorem sameRegsBut_setFlags (s : State) (z n h c : Bool) : SameRegsBut [] s (s.setFlags z n h c) := by
  simp [sameRegsBut_nil_iff]

@[simp] theorem sameElsewhere_setFlags (s t : State) (z n h c : Bool) :
    SameElsewhere s (t.setFlags z n h c) ↔ SameElsewhere s t := Iff.rfl

@[simp] theorem sameElsewhere_setAlu (s t : State) (o : AluOut) : SameElsewhere s (t.setAlu o) ↔ SameElsewhere s t :=
  Iff.rfl

/-- A write of flags alone, with its cycles. -/
theorem onlyRegs_setFlags (s : State) (z n h c : Bool) (k : Nat) : OnlyRegs [] k s ((s.setFlags z n h c).tick k) :=
  ⟨sameRegsBut_setFlags s z n h c, by simp, by simp, by simp, by simpa using SameElsewhere.refl s⟩

/-- A write of one register and the flags, with its cycles. -/
theorem onlyRegs_set8_setFlags (s : State) (r : Reg8) (v : Byte) (z n h c : Bool) (k : Nat) :
    OnlyRegs [r] k s (((s.set8 r v).setFlags z n h c).tick k) :=
  ⟨(sameRegsBut_set8 s r v).trans (sameRegsBut_setFlags _ z n h c), by simp, by simp, by simp,
    by simpa using SameElsewhere.refl s⟩

/-- An ALU result touches no general register but A (R122). -/
theorem sameRegsBut_setAlu (s : State) (o : AluOut) : SameRegsBut [.a] s (s.setAlu o) :=
  (sameRegsBut_set8 s .a o.res).trans (sameRegsBut_setFlags _ o.z o.n o.h o.c)

/-! ## A form that replaces the byte at HL (41 R148, R150; 43 R164) -/

/-- A read writes no register and no latch, and leaves the PPU alone (R64). -/
theorem storeFrame_afterLoad (s : State) (a : Word) : StoreFrame [] 0 s (s.afterLoad a) :=
  ⟨sameRegsBut_afterLoad s a, by simp, by simp [SameLatches], by simp⟩

/-- The read, the store of the result, and the flags. -/
theorem replaceAtHl_spec {s : State} (h : s.cfg.wf = true) (o : AluOut) (n : Nat) :
    ∃ t, s.replaceAtHl o n = .next t ∧ Replaced o.res n s t ∧ FlagsAre s t o.z o.n o.h o.c := by
  obtain ⟨m, hm⟩ := store_total (s := s.afterLoad s.hl) (by simpa using h) s.hl o.res
  obtain ⟨hf, hsp, hpc, hstore⟩ := store_frame hm
  have hframe : StoreFrame [] 0 s m := (storeFrame_afterLoad s s.hl).trans hstore
  have helse : SameElsewhere m ((m.setAluFlags o).tick n) := .refl m
  refine ⟨(m.setAluFlags o).tick n, seq_eq_next.mpr ⟨m, hm, rfl⟩, ⟨.of_store hm helse.sameBus, ?_, ?_,
    hframe.andThen (sameRegsBut_setFlags m o.z o.n o.h o.c) rfl helse⟩, .of_f ?_⟩
  · simp [hsp]
  · simp [hpc]
  · simp [hf]

end Sys2Proof.Machine
end

section
/-! The arithmetic and logic of the accumulator with a byte operand (41_alu8 R114 to R146). -/

namespace Sys2Proof.Machine

/-! ## The three forms of an operation (R122) -/

theorem encode_aluReg (op : AluOp) (r : Reg8) : encode (.aluReg op r) = [2#2 ++ aluCode op ++ regCode r] := by
  cases op <;> cases r <;> rfl

theorem encode_aluMem (op : AluOp) : encode (.aluMem op) = [2#2 ++ aluCode op ++ 6#3] := by
  cases op <;> rfl

theorem encode_aluImm (b : Byte) (op : AluOp) : encode (.aluImm b op) = [3#2 ++ aluCode op ++ 6#3, b] := by
  cases op <;> rfl

/-- An operation on a byte at hand: A and the flags take its result, and nothing else changes. -/
theorem aluWith_spec {op : AluOp} {s : State} {b : Byte} {o : AluOut} (ho : aluOut op s.a b s.flagC = o) (k : Nat) :
    ∃ t, aluWith op b k s = .next t ∧ t.a = o.res ∧ FlagsAre s t o.z o.n o.h o.c ∧ OnlyRegs [.a] k s t := by
  subst ho
  exact ⟨_, rfl, rfl, .of_f rfl, onlyRegs_set8_setFlags s .a _ _ _ _ _ k⟩

/-- An operation on the byte at HL: the read's side effect is all that it adds. -/
theorem aluMem_spec {op : AluOp} {s : State} {o : AluOut} (ho : aluOut op s.a (s.loadByte s.hl) s.flagC = o) :
    ∃ t, aluMem op s = .next t ∧ t.a = o.res ∧ FlagsAre s t o.z o.n o.h o.c ∧ LoadFrame [.a] 8 s.hl s t := by
  have hexec : aluMem op s = .next (((s.afterLoad s.hl).setAlu o).tick 8) := by
    simp [← ho, aluMem, aluWith, State.flagC]
  refine ⟨_, hexec, rfl, .of_f (by simp), .of_afterLoad ?_ (by simp) (by simp) (by simp) ?_⟩
  · exact (sameRegsBut_afterLoad s s.hl).trans (sameRegsBut_setAlu (s.afterLoad s.hl) o)
  · simpa using SameElsewhere.refl _

/-- The three forms of an operation do what its function of the accumulator, the operand and C says. -/
theorem aluRuns_of_aluOut {op : AluOp} {s : State} {res : Byte → Byte} {z n h c : Byte → Bool}
    (hout : ∀ b, aluOut op s.a b s.flagC = ⟨res b, z b, n b, h b, c b⟩) : AluRuns op s res z n h c := by
  refine ⟨fun r => ⟨encode_aluReg op r, ?_⟩, fun b hb => ⟨encode_aluMem op, ?_⟩,
    fun b => ⟨encode_aluImm b op, ?_⟩⟩
  · rw [exec_aluReg]
    exact aluWith_spec (hout (s.get8 r)) 4
  · subst hb
    rw [exec_aluMem]
    exact aluMem_spec (hout _)
  · rw [exec_aluImm]
    exact aluWith_spec (hout b) 8

/-! ## Addition (R114, R115) -/

theorem ofNat8_eq_zero_iff (k : Nat) : BitVec.ofNat 8 k = 0 ↔ k % 256 = 0 := by
  rw [← BitVec.toNat_inj]
  simp

/-- Settles O45: the sums of `add8` and `adc8` are exact, and Z is a test of the byte they are narrowed to. -/
theorem addAndAddWithCarry : Obligations.AddAndAddWithCarry := fun s =>
  ⟨aluRuns_of_aluOut fun b => by simp only [aluOut, add8, ofNat8_eq_zero_iff]; rfl,
    aluRuns_of_aluOut fun b => by simp only [aluOut, adc8, ofNat8_eq_zero_iff]; rfl⟩

/-! ## Subtraction and comparison (R116, R117, R121) -/

/-- The difference of two bytes, narrowed to a byte, is the difference modulo 2^8. -/
theorem ofInt8_toNat_sub (a b : Byte) : BitVec.ofInt 8 (a.toNat - b.toNat) = a - b := by
  apply BitVec.eq_of_toNat_eq
  rw [BitVec.toNat_ofInt, BitVec.toNat_sub]
  omega

/-- As `ofInt8_toNat_sub`, with a borrow. -/
theorem ofInt8_toNat_sub_sub (a b : Byte) (c : Bool) :
    BitVec.ofInt 8 (a.toNat - b.toNat - c.toNat) = a - b - (if c then 1 else 0) := by
  have hc : (if c then 1 else 0 : Byte).toNat = c.toNat := by cases c <;> rfl
  have hle := c.toNat_le
  apply BitVec.eq_of_toNat_eq
  rw [BitVec.toNat_ofInt, BitVec.toNat_sub, BitVec.toNat_sub, hc]
  omega

/-- Settles O46: the differences of `sub8` and `sbc8` narrow to the byte differences; `cp8` gives A back. -/
theorem subtractAndCompare : Obligations.SubtractAndCompare := fun s =>
  ⟨aluRuns_of_aluOut fun b => by simp only [aluOut, sub8, ofInt8_toNat_sub]; rfl,
    aluRuns_of_aluOut fun b => by simp only [aluOut, sbc8, ofInt8_toNat_sub_sub]; rfl,
    aluRuns_of_aluOut fun _ => rfl⟩

/-! ## Logic (R118 to R120) -/

/-- Settles O47: an XOR is 0 where the operands are equal, an OR where both are 0. -/
theorem logic : Obligations.Logic := fun s =>
  ⟨aluRuns_of_aluOut fun _ => rfl, aluRuns_of_aluOut fun b => by simp [aluOut, xor8, BitVec.xor_eq_zero_iff],
    aluRuns_of_aluOut fun b => by simp [aluOut, or8, BitVec.or_eq_zero_iff]⟩

end Sys2Proof.Machine
end

section
/-! Increment, decrement and the forms of the accumulator and the flags (41_alu8 R147 to R154, 43 R160 to R163). -/

namespace Sys2Proof.Machine

/-! ## INC and DEC (R147 to R150) -/

theorem lowNibble_eq_and (v : Byte) : lowNibble v = (v &&& 0x0F).toNat := by
  rw [BitVec.toNat_and]
  exact (Nat.and_two_pow_sub_one_eq_mod v.toNat 4).symm

/-- INC wraps 0xFF to 0, and carries out of a low nibble 0x0F. -/
theorem inc8_eq (v : Byte) (c : Bool) :
    inc8 v c = ⟨v + 1, decide (v = 0xFF), false, decide (v &&& 0x0F = 0x0F), c⟩ := by
  have hres : BitVec.ofNat 8 (v.toNat + 1) = v + 1 := by simp [BitVec.ofNat_add]
  have hz : v + 1 = 0 ↔ v = 0xFF := by bv_omega
  have hh : lowNibble v = 0x0F ↔ v &&& 0x0F = 0x0F := by rw [lowNibble_eq_and]; bv_omega
  simp only [inc8, hres, hz, hh]

/-- DEC reaches 0 from 1, and borrows into a low nibble 0. -/
theorem dec8_eq (v : Byte) (c : Bool) :
    dec8 v c = ⟨v - 1, decide (v = 0x01), true, decide (v &&& 0x0F = 0x00), c⟩ := by
  have hres : BitVec.ofInt 8 (v.toNat - 1) = v - 1 := ofInt8_toNat_sub v 1
  have hz : v - 1 = 0 ↔ v = 0x01 := by bv_omega
  have hh : lowNibble v = 0 ↔ v &&& 0x0F = 0x00 := by rw [lowNibble_eq_and]; bv_omega
  simp only [dec8, hres, hz, hh]

theorem encode_incReg (r : Reg8) : encode (.incReg r) = [0#2 ++ regCode r ++ 4#3] := by
  cases r <;> rfl

theorem encode_decReg (r : Reg8) : encode (.decReg r) = [0#2 ++ regCode r ++ 5#3] := by
  cases r <;> rfl

/-- A register and the flags take an ALU result: what is written, and the frame. -/
theorem set8_setAluFlags_spec (s : State) (r : Reg8) (o : AluOut) (k : Nat) :
    ∃ t, (.next (((s.set8 r o.res).setAluFlags o).tick k) : Result) = .next t ∧ t.get8 r = o.res ∧
      OnlyRegs [r] k s t ∧ FlagsAre s t o.z o.n o.h o.c := by
  refine ⟨_, rfl, ?_, onlyRegs_set8_setFlags s r o.res o.z o.n o.h o.c k, .of_f (by simp)⟩
  exact (get8_set8 s r r o.res).trans (if_pos rfl)

/-- Settles O48: a register, or the byte at HL, is written with the result of `inc8` or `dec8`, with its flags. -/
theorem incrementAndDecrement : Obligations.IncrementAndDecrement := by
  intro s
  refine ⟨fun r => ⟨encode_incReg r, encode_decReg r, ?_, ?_⟩, rfl, rfl, fun h old hold => ⟨?_, ?_⟩⟩
  · simpa only [exec_incReg, incReg, inc8_eq] using set8_setAluFlags_spec s r (inc8 (s.get8 r) s.flagC) 4
  · simpa only [exec_decReg, decReg, dec8_eq] using set8_setAluFlags_spec s r (dec8 (s.get8 r) s.flagC) 4
  · obtain ⟨t, ht, hspec⟩ := replaceAtHl_spec h (inc8 (s.loadByte s.hl) s.flagC) 12
    exact ⟨t, ht, by simpa only [inc8_eq, hold] using hspec⟩
  · obtain ⟨t, ht, hspec⟩ := replaceAtHl_spec h (dec8 (s.loadByte s.hl) s.flagC) 12
    exact ⟨t, ht, by simpa only [dec8_eq, hold] using hspec⟩

/-! ## DAA (R151) -/

theorem loByte_eq_ofNat (w : Word) : loByte w = BitVec.ofNat 8 w.toNat := by
  apply BitVec.eq_of_toNat_eq
  rw [loByte_toNat, BitVec.toNat_ofNat]

theorem loByte_eq_zero_iff (w : Word) : loByte w = 0 ↔ w.toNat % 256 = 0 := by
  rw [loByte_eq_ofNat, ofNat8_eq_zero_iff]

theorem getLsbD_eight (w : Word) : w.getLsbD 8 = decide (w.toNat / 256 % 2 = 1) := by
  rw [← BitVec.testBit_toNat, Nat.testBit_eq_decide_div_mod_eq]

theorem toNat_and_lowByte (w : Word) : (w &&& 0x00FF).toNat = w.toNat % 256 := by
  rw [BitVec.toNat_and]
  exact Nat.and_two_pow_sub_one_eq_mod w.toNat 8

theorem toNat_setWidth_word (a : Byte) : (a.setWidth 16).toNat = a.toNat := BitVec.toNat_setWidth_of_le (by decide)

/-- After a subtraction the intermediate of DAA falls by the two corrections: the first wraps in a byte, the second in a
word. -/
theorem daaIntermediate_of_n {a : Byte} {h c : Bool} {low : Nat}
    (hlow : low = if h then (a.toNat + 256 - 6) % 256 else a.toNat) :
    (daaIntermediate a true h c).toNat = if c then (low + 65536 - 0x60) % 65536 else low := by
  have ha := toNat_setWidth_word a
  have hs : (if h then (a.setWidth 16 - 0x06) &&& 0x00FF else a.setWidth 16 : Word).toNat = low := by
    rw [hlow]
    cases h with
    | false => exact ha
    | true =>
      simp only [if_true, toNat_and_lowByte]
      bv_omega
  simp only [daaIntermediate, if_true]
  generalize (if h then (a.setWidth 16 - 0x06) &&& 0x00FF else a.setWidth 16 : Word) = x at hs ⊢
  rw [← hs]
  split
  · bv_omega
  · rfl

/-- After an addition the intermediate of DAA grows by the two corrections, and neither wraps. -/
theorem daaIntermediate_of_not_n {a : Byte} {h c : Bool} {low : Nat}
    (hlow : low = if h ∨ 9 < a.toNat % 16 then a.toNat + 6 else a.toNat) :
    (daaIntermediate a false h c).toNat = if c ∨ 0x9F < low then low + 0x60 else low := by
  have ha := toNat_setWidth_word a
  have hlt := a.isLt
  have hs : (if h = true ∨ 9 < a.toNat % 16 then a.setWidth 16 + 0x06 else a.setWidth 16 : Word).toNat = low := by
    rw [hlow]
    split
    · bv_omega
    · exact ha
  have hle : low ≤ 261 := by
    rw [hlow]
    split <;> omega
  simp only [daaIntermediate, Bool.false_eq_true, if_false, Bool.or_eq_true, decide_eq_true_eq, ha]
  generalize (if h = true ∨ 9 < a.toNat % 16 then a.setWidth 16 + 0x06 else a.setWidth 16 : Word) = x at hs ⊢
  rw [← hs]
  split
  · bv_omega
  · rfl

/-- The 16-bit intermediate of DAA is the exact number of the rule. -/
theorem daaIntermediate_toNat {a : Byte} {n h c : Bool} {low w : Nat}
    (hlow : low = (if n then (if h then (a.toNat + 256 - 6) % 256 else a.toNat)
      else if h ∨ 9 < a.toNat % 16 then a.toNat + 6 else a.toNat))
    (hw : w = (if n then (if c then (low + 65536 - 0x60) % 65536 else low)
      else if c ∨ 0x9F < low then low + 0x60 else low)) :
    (daaIntermediate a n h c).toNat = w := by
  cases n with
  | true => exact (daaIntermediate_of_n hlow).trans hw.symm
  | false => exact (daaIntermediate_of_not_n hlow).trans hw.symm

/-- Settles O49: A takes the low byte of the intermediate, and its bit 8 is the carry. -/
theorem decimalAdjust : Obligations.DecimalAdjust := by
  intro s low w hlow hw
  obtain rfl := daaIntermediate_toNat hlow hw
  simp only [← loByte_eq_ofNat, ← loByte_eq_zero_iff, ← getLsbD_eight]
  exact ⟨rfl, _, rfl, rfl, onlyRegs_set8_setFlags s .a _ _ _ _ _ 4, .of_f rfl⟩

/-! ## CPL, SCF, CCF and the rotates of A (R152 to R154, R160 to R163) -/

/-- RLC is a rotation (R164). -/
theorem shiftOut_rlc (v : Byte) (c : Bool) : (shiftOut .rlc v c).1 = v.rotateLeft 1 := by
  refine BitVec.eq_of_getLsbD_eq fun i hi => ?_
  interval_cases i <;> simp [shiftOut]

/-- RRC is a rotation (R164). -/
theorem shiftOut_rrc (v : Byte) (c : Bool) : (shiftOut .rrc v c).1 = v.rotateRight 1 := by
  refine BitVec.eq_of_getLsbD_eq fun i hi => ?_
  interval_cases i <;> simp [shiftOut]

/-- RL moves every bit up by one, and C into bit 0 (R164). -/
theorem shiftOut_rl (v : Byte) (c : Bool) :
    (shiftOut .rl v c).1.getLsbD 0 = c ∧ ∀ k, k < 7 → (shiftOut .rl v c).1.getLsbD (k + 1) = v.getLsbD k := by
  refine ⟨by simp [shiftOut], fun k hk => ?_⟩
  interval_cases k <;> simp [shiftOut]

/-- RR moves every bit down by one, and C into bit 7 (R164). -/
theorem shiftOut_rr (v : Byte) (c : Bool) :
    (shiftOut .rr v c).1.getLsbD 7 = c ∧ ∀ k, k < 7 → (shiftOut .rr v c).1.getLsbD k = v.getLsbD (k + 1) := by
  refine ⟨by simp [shiftOut], fun k hk => ?_⟩
  interval_cases k <;> simp [shiftOut]

/-- A rotate of A is the shift function of its row, with Z cleared. -/
theorem rotateAccumulator_spec (op : ShiftOp) (s : State) :
    ∃ t, rotateAccumulator op s = .next t ∧ t.a = (shiftOut op s.a s.flagC).1 ∧
      FlagsAre s t false false false (shiftOut op s.a s.flagC).2 ∧ OnlyRegs [.a] 4 s t :=
  ⟨_, rfl, rfl, .of_f rfl, onlyRegs_set8_setFlags s .a _ _ _ _ _ 4⟩

/-- Settles O50: each form writes A, the flags, or both, and the rotates of A are those of the CB rows. -/
theorem accumulatorAndFlagForms : Obligations.AccumulatorAndFlagForms := by
  intro s
  refine ⟨rfl, rfl, rfl, rfl, rfl, rfl, rfl,
    ⟨_, rfl, rfl, .of_f rfl, onlyRegs_set8_setFlags s .a _ _ _ _ _ 4⟩,
    ⟨_, rfl, .of_f rfl, onlyRegs_setFlags s _ _ _ _ 4⟩, ⟨_, rfl, .of_f rfl, onlyRegs_setFlags s _ _ _ _ 4⟩,
    ?_, ?_, ?_, ?_⟩
  · rw [← shiftOut_rlc s.a s.flagC]
    exact rotateAccumulator_spec .rlc s
  · rw [← shiftOut_rrc s.a s.flagC]
    exact rotateAccumulator_spec .rrc s
  · obtain ⟨t, ht, ha, hrest⟩ := rotateAccumulator_spec .rl s
    exact ⟨t, ht, ha ▸ shiftOut_rl s.a s.flagC, hrest⟩
  · obtain ⟨t, ht, ha, hrest⟩ := rotateAccumulator_spec .rr s
    exact ⟨t, ht, ha ▸ shiftOut_rr s.a s.flagC, hrest⟩

end Sys2Proof.Machine
end

section
/-! The arithmetic of the pairs and of SP with an offset (42_alu16 R155 to R159). -/

namespace Sys2Proof.Machine

/-! ## A form that writes a pair and the flags -/

/-- A write of flags adds nothing to what a form that writes a pair changes. -/
theorem OnlyPair.setFlags {rr : Reg16} {k : Nat} {s t : State} (ht : OnlyPair rr k s t) (z n h c : Bool) :
    OnlyPair rr k s (t.setFlags z n h c) := by
  obtain ⟨hregs, hsp, hpc, hclocks, helse⟩ := ht
  exact ⟨by simpa using hregs.trans (sameRegsBut_setFlags t z n h c), hsp, hpc, hclocks, helse⟩

/-- A pair that is not SP is two of the general registers (R21). -/
theorem OnlyPair.onlyRegs {rr : Reg16} {k : Nat} {s t : State} (ht : OnlyPair rr k s t) (hrr : rr ≠ .sp) :
    OnlyRegs (halves rr) k s t := by
  obtain ⟨hregs, hsp, hrest⟩ := ht
  exact ⟨hregs, hsp hrr, hrest⟩

/-- A pair and the flags are written: what is read back, and the frame. -/
theorem set16_setFlags_spec (s : State) (rr : Reg16) (v : Word) (z n h c : Bool) (k : Nat) :
    ∃ t, (.next (((s.set16 rr v).setFlags z n h c).tick k) : Result) = .next t ∧ t.get16 rr = v ∧
      FlagsAre s t z n h c ∧ OnlyPair rr k s t :=
  ⟨_, rfl, get16_set16 s rr v, .of_f (by simp), (onlyPair_set16 s rr v k).setFlags z n h c⟩

/-! ## ADD HL,rr, INC rr and DEC rr (R155 to R157) -/

theorem encode_addHl (rr : Reg16) : encode (.addHl rr) = [0#2 ++ pairCode rr ++ 9#4] := by
  cases rr <;> rfl

theorem encode_incPair (rr : Reg16) : encode (.incPair rr) = [0#2 ++ pairCode rr ++ 3#4] := by
  cases rr <;> rfl

theorem encode_decPair (rr : Reg16) : encode (.decPair rr) = [0#2 ++ pairCode rr ++ 11#4] := by
  cases rr <;> rfl

/-- ADD HL,rr: the sum, its flags, with H the free parameter of the operands and the result (R155), and the frame. -/
theorem addHl_spec (rr : Reg16) (s : State) :
    ∃ t, addHl rr s = .next t ∧ t.hl = BitVec.ofNat 16 (s.hl.toNat + (s.get16 rr).toNat) ∧
      FlagsAre s t s.flagZ false (Config.add16HalfCarry s.hl (s.get16 rr) t.hl)
        (decide (0xFFFF < s.hl.toNat + (s.get16 rr).toNat)) ∧ OnlyRegs [.h, .l] 8 s t := by
  let sum := s.hl.toNat + (s.get16 rr).toNat
  obtain ⟨t, ht, hhl, hflags, hframe⟩ := set16_setFlags_spec s .hl (BitVec.ofNat 16 sum) s.flagZ false
    (Config.add16HalfCarry s.hl (s.get16 rr) (BitVec.ofNat 16 sum)) (decide (0xFFFF < sum)) 8
  rw [← hhl] at hflags
  exact ⟨t, ht, hhl, hflags, hframe.onlyRegs (by decide)⟩

/-- Settles O51: the sum goes to HL with its flags, and INC and DEC are a write of their pair alone. -/
theorem pairArithmetic : Obligations.PairArithmetic := by
  intro s rr
  refine ⟨encode_addHl rr, encode_incPair rr, encode_decPair rr, ?_,
    ⟨_, exec_incPair rr s, get16_set16 s rr _, by simp, onlyPair_set16 s rr _ 8⟩,
    ⟨_, exec_decPair rr s, get16_set16 s rr _, by simp, onlyPair_set16 s rr _ 8⟩⟩
  rw [exec_addHl]
  exact addHl_spec rr s

/-! ## ADD SP,e and LD HL,SP+e (R158, R159) -/

/-- SP plus the sign-extended offset is the sum of the integers, narrowed to a word. -/
theorem spPlus_eq_ofInt (s : State) (e : Byte) : s.spPlus e = BitVec.ofInt 16 (s.sp.toNat + e.toInt) := by
  rw [BitVec.ofInt_add, BitVec.ofInt_natCast, BitVec.ofNat_toNat, BitVec.setWidth_eq]
  rfl

/-- Settles O52: both forms write `SP + sext_16(e)` to their pair, with the flags of the unsigned low parts. -/
theorem stackPointerPlusOffset : Obligations.StackPointerPlusOffset := by
  rintro s e _ _ rfl rfl
  rw [← spPlus_eq_ofInt]
  exact ⟨rfl, rfl, set16_setFlags_spec s .sp (s.spPlus e) false false (spHalfCarry s.sp e) (spCarry s.sp e) 16,
    set16_setFlags_spec s .hl (s.spPlus e) false false (spHalfCarry s.sp e) (spCarry s.sp e) 12⟩

end Sys2Proof.Machine
end

section
/-! The CB rotates and shifts of a register and of the byte at HL (43 R164 to R180). -/

namespace Sys2Proof.Machine

/-! ## The two forms of a shift (R164) -/

theorem encode_shiftReg (op : ShiftOp) (r : Reg8) :
    encode (.shiftReg op r) = [0xCB, 0#2 ++ shiftCode op ++ regCode r] := by
  cases op <;> cases r <;> rfl

theorem encode_shiftMem (op : ShiftOp) : encode (.shiftMem op) = [0xCB, 0#2 ++ shiftCode op ++ 6#3] := by
  cases op <;> rfl

/-- Both forms do what the row's shift function of the operand and C says. -/
theorem shiftRuns_of_shiftOut {op : ShiftOp} {s : State} {res : Byte → Byte} {out : Byte → Bool}
    (hres : ∀ v, (shiftOut op v s.flagC).1 = res v) (hout : ∀ v, (shiftOut op v s.flagC).2 = out v) :
    ShiftRuns op s res out := by
  have halu (v : Byte) : shiftAlu op v s.flagC = ⟨res v, decide (res v = 0), false, false, out v⟩ := by
    rw [shiftAlu, hres, hout]
  refine ⟨fun r => ⟨encode_shiftReg op r, ?_⟩, fun h v hv => ⟨encode_shiftMem op, ?_⟩⟩
  · obtain ⟨t, ht, hread, hframe, hflags⟩ := set8_setAluFlags_spec s r (shiftAlu op (s.get8 r) s.flagC) 8
    rw [halu] at hread hflags
    exact ⟨t, (exec_shiftReg op r s).trans ht, hread, hflags, hframe⟩
  · subst hv
    rw [exec_shiftMem, shiftMem, halu]
    exact replaceAtHl_spec h _ 16

/-! ## The results as numbers and as words (R164) -/

/-- RL doubles the operand and brings C in at bit 0. -/
theorem shiftOut_rl_eq_ofNat (v : Byte) (c : Bool) :
    (shiftOut .rl v c).1 = BitVec.ofNat 8 (v.toNat * 2 + c.toNat) := by
  have hor : v.toNat <<< 1 ||| c.toNat = v.toNat * 2 + c.toNat := by
    rw [← Nat.shiftLeft_add_eq_or_of_lt c.toNat_lt, Nat.shiftLeft_eq, pow_one]
  apply BitVec.eq_of_toNat_eq
  simp [shiftOut, ← hor]

/-- RR halves the operand and brings C in at bit 7. -/
theorem shiftOut_rr_eq_ofNat (v : Byte) (c : Bool) :
    (shiftOut .rr v c).1 = BitVec.ofNat 8 (v.toNat / 2 + 128 * c.toNat) := by
  have hlt : v.toNat / 2 < 2 ^ 7 := by omega
  have hor : v.toNat >>> 1 ||| c.toNat <<< 7 = v.toNat / 2 + 128 * c.toNat := by
    rw [Nat.or_comm, Nat.shiftRight_one, ← Nat.shiftLeft_add_eq_or_of_lt hlt, Nat.shiftLeft_eq]
    omega
  have hv : v.toNat >>> 1 < 256 := by rw [Nat.shiftRight_one]; omega
  have hc : c.toNat < 256 := c.toNat_lt.trans (by decide)
  apply BitVec.eq_of_toNat_eq
  simp [shiftOut, ← hor, Nat.mod_eq_of_lt hv, Nat.mod_eq_of_lt hc]

/-- SLA doubles the operand. -/
theorem shiftOut_sla (v : Byte) (c : Bool) : (shiftOut .sla v c).1 = BitVec.ofNat 8 (v.toNat * 2) := by
  apply BitVec.eq_of_toNat_eq
  simp [shiftOut, Nat.shiftLeft_eq]

/-- SRL halves the operand. -/
theorem shiftOut_srl (v : Byte) (c : Bool) : (shiftOut .srl v c).1 = BitVec.ofNat 8 (v.toNat / 2) := by
  have hlt : v.toNat / 2 < 256 := by omega
  apply BitVec.eq_of_toNat_eq
  simp [shiftOut, Nat.shiftRight_one, Nat.mod_eq_of_lt hlt]

/-- SRA keeps the sign bit: it is the arithmetic shift. -/
theorem shiftOut_sra (v : Byte) (c : Bool) : (shiftOut .sra v c).1 = v.sshiftRight 1 := by
  refine BitVec.eq_of_getLsbD_eq fun i hi => ?_
  interval_cases i <;> simp [shiftOut, BitVec.getElem_sshiftRight, BitVec.msb_eq_getLsbD_last]

/-- SWAP is a rotation by a nibble. -/
theorem shiftOut_swap (v : Byte) (c : Bool) : (shiftOut .swap v c).1 = v.rotateLeft 4 := by
  refine BitVec.eq_of_getLsbD_eq fun i hi => ?_
  interval_cases i <;> simp [shiftOut]

/-- Settles O53: the rotates through C are the operand doubled or halved, with C at the end that is freed. -/
theorem rotates : Obligations.Rotates := fun s =>
  ⟨shiftRuns_of_shiftOut (fun v => shiftOut_rlc v s.flagC) fun _ => rfl,
    shiftRuns_of_shiftOut (fun v => shiftOut_rrc v s.flagC) fun _ => rfl,
    shiftRuns_of_shiftOut (fun v => shiftOut_rl_eq_ofNat v s.flagC) fun _ => rfl,
    shiftRuns_of_shiftOut (fun v => shiftOut_rr_eq_ofNat v s.flagC) fun _ => rfl⟩

/-- Settles O54: the shifts are the operand doubled or halved, SRA with its sign kept, and SWAP is a rotation by 4. -/
theorem shiftsAndSwap : Obligations.ShiftsAndSwap := fun s =>
  ⟨shiftRuns_of_shiftOut (fun v => shiftOut_sla v s.flagC) fun _ => rfl,
    shiftRuns_of_shiftOut (fun v => shiftOut_sra v s.flagC) fun _ => rfl,
    shiftRuns_of_shiftOut (fun v => shiftOut_swap v s.flagC) fun _ => rfl,
    shiftRuns_of_shiftOut (fun v => shiftOut_srl v s.flagC) fun _ => rfl⟩

end Sys2Proof.Machine
end

section
/-! BIT, RES and SET of a register and of the byte at HL (43 R181 to R186). -/

namespace Sys2Proof.Machine

/-! ## Encodings -/

theorem encode_bitReg (k : BitVec 3) (r : Reg8) : encode (.bitReg k r) = [0xCB, 1#2 ++ k ++ regCode r] := by
  revert k; refine forall_bitVec3 fun n => ?_; fin_cases n <;> cases r <;> rfl

theorem encode_resReg (k : BitVec 3) (r : Reg8) : encode (.resReg k r) = [0xCB, 2#2 ++ k ++ regCode r] := by
  revert k; refine forall_bitVec3 fun n => ?_; fin_cases n <;> cases r <;> rfl

theorem encode_setReg (k : BitVec 3) (r : Reg8) : encode (.setReg k r) = [0xCB, 3#2 ++ k ++ regCode r] := by
  revert k; refine forall_bitVec3 fun n => ?_; fin_cases n <;> cases r <;> rfl

theorem encode_bitMem (k : BitVec 3) : encode (.bitMem k) = [0xCB, 1#2 ++ k ++ 6#3] := by
  revert k; refine forall_bitVec3 fun n => ?_; fin_cases n <;> rfl

theorem encode_resMem (k : BitVec 3) : encode (.resMem k) = [0xCB, 2#2 ++ k ++ 6#3] := by
  revert k; refine forall_bitVec3 fun n => ?_; fin_cases n <;> rfl

theorem encode_setMem (k : BitVec 3) : encode (.setMem k) = [0xCB, 3#2 ++ k ++ 6#3] := by
  revert k; refine forall_bitVec3 fun n => ?_; fin_cases n <;> rfl

/-! ## BIT (R181, R182) -/

/-- BIT touches no general register. -/
theorem sameRegsBut_testBit (s : State) (k : Nat) (v : Byte) : SameRegsBut [] s (s.testBit k v) :=
  sameRegsBut_setFlags s _ _ _ _

/-- BIT of a register: three flags, and nothing else. -/
theorem bitReg_spec (k : Nat) (r : Reg8) (s : State) :
    ∃ t, bitReg k r s = .next t ∧ FlagsAre s t (!(s.get8 r).getLsbD k) false true s.flagC ∧ OnlyRegs [] 8 s t :=
  ⟨_, rfl, .of_f (testBit_f s k (s.get8 r)), onlyRegs_setFlags s _ _ _ _ 8⟩

/-- BIT of the byte at HL: the read's side effect is all that it adds. -/
theorem bitMem_spec (k : Nat) (s : State) :
    ∃ t, bitMem k s = .next t ∧ FlagsAre s t (!(s.loadByte s.hl).getLsbD k) false true s.flagC ∧
      LoadFrame [] 12 s.hl s t := by
  refine ⟨_, rfl, .of_f ?_, .of_afterLoad ?_ (by simp) (by simp) (by simp) ?_⟩
  · simp [State.flagC]
  · exact (sameRegsBut_afterLoad s s.hl).trans (sameRegsBut_testBit (s.afterLoad s.hl) k (s.loadByte s.hl))
  · simpa [State.testBit] using SameElsewhere.refl (s.afterLoad s.hl)

/-! ## RES and SET (R183 to R186) -/

/-- `withBit` writes its bit and keeps every other. -/
theorem getLsbD_withBit {j : Nat} (hj : j < 8) (x : Byte) (k : Nat) (v : Bool) :
    (withBit x k v).getLsbD j = if j = k then v else x.getLsbD j := by
  have hmask : (1#8 <<< k).getLsbD j = decide (j = k) := by
    rw [← BitVec.twoPow_eq, BitVec.getLsbD_twoPow, Bool.eq_iff_iff, Bool.and_eq_true]
    simp only [decide_eq_true_eq]
    omega
  cases v with
  | false =>
    simp only [withBit, Bool.false_eq_true, if_false, BitVec.getLsbD_and, BitVec.getLsbD_not, hmask, hj]
    split <;> simp [*]
  | true =>
    simp only [withBit, if_true, BitVec.getLsbD_or, hmask]
    split <;> simp [*]

theorem exec_writeBitReg (v : Bool) (k : BitVec 3) (r : Reg8) (s : State) :
    exec (if v then .setReg k r else .resReg k r) s = writeBitReg v k.toNat r s := by
  cases v with
  | false => exact exec_resReg k r s
  | true => exact exec_setReg k r s

theorem exec_writeBitMem (v : Bool) (k : BitVec 3) (s : State) :
    exec (if v then .setMem k else .resMem k) s = writeBitMem v k.toNat s := by
  cases v with
  | false => exact exec_resMem k s
  | true => exact exec_setMem k s

/-- The register takes the written bit, and nothing else changes. -/
theorem writeBitReg_spec (v : Bool) (k : Nat) (r : Reg8) (s : State) :
    ∃ t, writeBitReg v k r s = .next t ∧ t.get8 r = withBit (s.get8 r) k v ∧ t.f = s.f ∧ OnlyRegs [r] 8 s t :=
  ⟨_, rfl, (get8_set8 s r r _).trans (if_pos rfl), by simp, onlyRegs_set8 s r _ 8⟩

/-- The read and the store of the written byte; no flag is written. -/
theorem writeBitMem_spec {s : State} (h : s.cfg.wf = true) (v : Bool) (k : Nat) :
    ∃ t, writeBitMem v k s = .next t ∧ Replaced (withBit (s.loadByte s.hl) k v) 16 s t ∧ t.f = s.f := by
  obtain ⟨m, hm⟩ := store_total (s := s.afterLoad s.hl) (by simpa using h) s.hl (withBit (s.loadByte s.hl) k v)
  obtain ⟨hf, hsp, hpc, hstore⟩ := store_frame hm
  have hframe : StoreFrame [] 0 s m := (storeFrame_afterLoad s s.hl).trans hstore
  have helse : SameElsewhere m (m.tick 16) := .refl m
  exact ⟨m.tick 16, seq_eq_next.mpr ⟨m, hm, rfl⟩, ⟨.of_store hm helse.sameBus, by simp [hsp], by simp [hpc],
    hframe.andThen (sameRegsBut_tick m 16) rfl helse⟩, by simp [hf]⟩

/-- Settles O55: BIT writes three flags, and RES and SET write `withBit` of their operand, which moves one bit only. -/
theorem bitForms : Obligations.BitForms := by
  intro s k
  refine ⟨fun r => ⟨encode_bitReg k r, encode_resReg k r, encode_setReg k r, ?_, fun v => ?_⟩,
    encode_bitMem k, encode_resMem k, encode_setMem k, ?_, fun h v => ?_⟩
  · rw [exec_bitReg]
    exact bitReg_spec k.toNat r s
  · obtain ⟨t, ht, hread, hrest⟩ := writeBitReg_spec v k.toNat r s
    refine ⟨t, (exec_writeBitReg v k r s).trans ht, fun j hj => ?_, hrest⟩
    rw [hread, getLsbD_withBit hj]
  · rw [exec_bitMem]
    exact bitMem_spec k.toNat s
  · obtain ⟨t, ht, hrest⟩ := writeBitMem_spec h v k.toNat
    exact ⟨t, _, (exec_writeBitMem v k s).trans ht, fun j hj => getLsbD_withBit hj _ _ _, hrest⟩

end Sys2Proof.Machine
end

section
/-! The jumps, calls and returns (44_control R187 to R197). -/

namespace Sys2Proof.Machine

/-! ## Encodings -/

theorem encode_jpIf (nn : Word) (cc : Cond) :
    encode (.jpIf nn cc) = (3#2 ++ 0#1 ++ condCode cc ++ 2#3) :: immBytes nn := by
  cases cc <;> rfl

theorem encode_jrIf (e : Byte) (cc : Cond) : encode (.jrIf e cc) = [0#2 ++ 1#1 ++ condCode cc ++ 0#3, e] := by
  cases cc <;> rfl

theorem encode_callIf (nn : Word) (cc : Cond) :
    encode (.callIf nn cc) = (3#2 ++ 0#1 ++ condCode cc ++ 4#3) :: immBytes nn := by
  cases cc <;> rfl

theorem encode_retIf (cc : Cond) : encode (.retIf cc) = [3#2 ++ 0#1 ++ condCode cc ++ 0#3] := by
  cases cc <;> rfl

theorem encode_rst (k : BitVec 3) : encode (.rst k) = [3#2 ++ k ++ 7#3] := by
  revert k; refine forall_bitVec3 fun n => ?_; fin_cases n <;> rfl

/-! ## The jumps (R187 to R191) -/

/-- A write of PC, with its cycles. -/
theorem onlyPc_setPc (s : State) (target : Word) (n : Nat) : OnlyPc n s ({ s with pc := target }.tick n) :=
  ⟨fun _ _ => rfl, rfl, rfl, rfl, .refl s⟩

/-- A conditional form whose condition fails charges its cycles and moves no register. -/
theorem onlyPc_tick (s : State) (n : Nat) : OnlyPc n s (s.tick n) := onlyPc_setPc s s.pc n

/-- A conditional jump: PC and the cycles go by the condition (R188, R191). -/
theorem jumpIf_spec (cc : Cond) (target : Word) (notTaken taken : Nat) (s : State) :
    ∃ t, jumpIf cc target notTaken taken s = .next t ∧ t.pc = (if s.holds cc then target else s.pc) ∧
      OnlyPc (if s.holds cc then taken else notTaken) s t := by
  rw [jumpIf]
  split
  · exact ⟨_, rfl, rfl, onlyPc_setPc s target taken⟩
  · exact ⟨_, rfl, rfl, onlyPc_tick s notTaken⟩

/-- The relative target is the sum of the integers, narrowed to a word (R190). -/
theorem relative_eq_ofInt (s : State) (e : Byte) : s.relative e = BitVec.ofInt 16 (s.pc.toNat + e.toInt) :=
  spPlus_eq_ofInt { s with sp := s.pc } e

/-- Settles O56: each form writes PC alone, JP cc and JR cc by their condition. -/
theorem jumps : Obligations.Jumps := by
  intro s
  simp only [← relative_eq_ofInt]
  refine ⟨fun nn => ⟨rfl, _, rfl, rfl, onlyPc_setPc s nn 16⟩, ⟨rfl, _, rfl, rfl, onlyPc_setPc s s.hl 4⟩,
    fun e => ⟨rfl, _, rfl, rfl, onlyPc_setPc s (s.relative e) 12⟩,
    fun cc => ⟨fun nn => ⟨encode_jpIf nn cc, ?_⟩, fun e => ⟨encode_jrIf e cc, ?_⟩⟩⟩
  · rw [exec_jpIf]
    exact jumpIf_spec cc nn 12 16 s
  · rw [exec_jrIf]
    exact jumpIf_spec cc (s.relative e) 8 12 s

/-! ## The calls and restarts (R192, R193, R197) -/

/-- An instruction that runs `call` is a push of PC and then a jump. -/
theorem calls_of_exec {i : Instr} {target : Word} {n : Nat} {s : State} (h : s.cfg.wf = true)
    (hexec : exec i s = call target n s) : Calls i target n s := by
  obtain ⟨m, hm⟩ := push_total h s.pc
  obtain ⟨hf, -, hframe⟩ := push_frame hm
  obtain ⟨hregs, -, -, hclocks, helse⟩ := onlyPc_setPc m target n
  exact ⟨{ m with pc := target }.tick n, hexec.trans (seq_eq_next.mpr ⟨m, hm, rfl⟩), .of_push hm rfl helse, rfl, hf,
    hframe.andThen hregs hclocks helse⟩

/-- Settles O57: the forms that push run `call`; a conditional call not taken only charges its cycles. -/
theorem callsAndRestarts : Obligations.CallsAndRestarts := by
  intro s h
  refine ⟨fun nn => ⟨rfl, calls_of_exec h rfl⟩, fun k => ⟨encode_rst k, calls_of_exec h (exec_rst k s)⟩,
    fun nn cc => ⟨encode_callIf nn cc, fun hcc => ?_, fun hcc => ?_⟩⟩
  · exact calls_of_exec h (by rw [exec_callIf, if_pos hcc])
  · exact ⟨s.tick 12, by simp [exec_callIf, hcc], rfl, onlyPc_tick s 12⟩

/-! ## The returns (R194 to R196) -/

/-- A subroutine return and its cycles: PC is the word of the two reads, and only SP moves with it (R194). -/
theorem returnToCaller_spec (s : State) (n : Nat) :
    (s.returnToCaller.tick n).pc = s.popHigh ++ s.popLow ∧ SameRegsBut [] s (s.returnToCaller.tick n) ∧
      (s.returnToCaller.tick n).f = s.f ∧ SameLatches s (s.returnToCaller.tick n) ∧
      PopFrame n s (s.returnToCaller.tick n) := by
  obtain ⟨hregs, hf, -, -, hmem, hunits, hhost, -⟩ := onlyPc_setPc s.afterPop s.popValue n
  exact ⟨popValue_eq s, (sameRegsBut_afterPop s).trans hregs, hf.trans (by simp),
    by simp [SameLatches, State.returnToCaller],
    .of_afterPop (by simp [State.returnToCaller]) (by simp [State.returnToCaller]) ⟨hmem, hunits, hhost⟩⟩

/-- Settles O58: the forms that pop are `returnToCaller`, to which RETI adds the write of IME. -/
theorem returns : Obligations.Returns := by
  intro s
  refine ⟨rfl, rfl, ⟨_, rfl, returnToCaller_spec s 16⟩,
    fun cc => ⟨encode_retIf cc, fun hcc => ?_, fun hcc => ?_⟩, ?_⟩
  · exact ⟨_, by rw [exec_retIf, if_pos hcc], returnToCaller_spec s 20⟩
  · exact ⟨s.tick 8, by simp [exec_retIf, hcc], rfl, onlyPc_tick s 8⟩
  · obtain ⟨hpc, hregs, hf, ⟨-, hhalted, hstopped, hhaltBug, hfault, -⟩, hframe⟩ := returnToCaller_spec s 16
    exact ⟨s.returnFromInterrupt.tick 16, rfl, hpc, rfl, hregs, hf, hhalted, hstopped, hhaltBug, hfault, hframe⟩

end Sys2Proof.Machine
end

section
/-! The system instructions and the undefined opcodes (45_system R198 to R203). -/

namespace Sys2Proof.Machine

/-! ## NOP, DI, EI, HALT and STOP (R198 to R202) -/

/-- A write of IME, of the HALT and STOP latches and of the halt bug, and its 4 cycles, leave everything else. -/
theorem onlyLatches_setLatches (s : State) (ime halted stopped haltBug : Bool) :
    OnlyLatches s ({ s with ime := ime, halted := halted, stopped := stopped, haltBug := haltBug }.tick 4) :=
  ⟨fun _ _ => rfl, rfl, rfl, rfl, rfl, ⟨fun _ => rfl, rfl, rfl, rfl, fun _ => rfl⟩, ⟨rfl, rfl, rfl, rfl, rfl⟩,
    ⟨rfl, rfl, rfl, rfl, rfl, rfl, rfl⟩⟩

theorem sameLatches_tick (s : State) (n : Nat) : SameLatches s (s.tick n) := ⟨rfl, rfl, rfl, rfl, rfl, rfl⟩

/-- Settles O59: each form is a write of its latches and 4 cycles; STOP does not look at its second byte. -/
theorem systemForms : Obligations.SystemForms := by
  intro s
  refine ⟨rfl, rfl, rfl, rfl, fun _ => rfl, ?nop, ?di, ?ei, ?halt, fun n => ?stop⟩
  case nop => exact ⟨s.tick 4, rfl, onlyLatches_setLatches s _ _ _ _, sameLatches_tick _ 4⟩
  case di => exact ⟨{ s with ime := false }.tick 4, rfl, onlyLatches_setLatches s _ _ _ _, sameLatches_tick _ 4⟩
  case ei => exact ⟨{ s with ime := true }.tick 4, rfl, onlyLatches_setLatches s _ _ _ _, sameLatches_tick _ 4⟩
  case halt =>
    exact ⟨{ s with halted := true, haltBug := !s.ime }.tick 4, rfl, onlyLatches_setLatches s _ _ _ _,
      sameLatches_tick _ 4⟩
  case stop => exact ⟨{ s with stopped := true }.tick 4, rfl, onlyLatches_setLatches s _ _ _ _, sameLatches_tick _ 4⟩

/-! ## The undefined opcodes (R203, R207, R209) -/

/-- The note of `pc0` at the start of the fetch does not touch the timer's catch-up (R82, R222; log 9). -/
theorem catchUp_atFetch (s : State) : s.atFetch.catchUp = { s.catchUp with opPc := s.pc } := by
  have hraise (u : State) (p : Bool) (k : Nat) :
      { u with opPc := s.pc }.raiseInterruptIf p k = { u.raiseInterruptIf p k with opPc := s.pc } := by
    cases p <;> rfl
  by_cases hdue : (timerEnabled s.tac && decide (s.timerTicks < s.timerTarget)) = true
  · have hcatch : s.catchUp = _ := if_pos hdue
    rw [hcatch]
    refine Eq.trans (if_pos hdue) ?_
    exact congrArg (fun u : State => { u with timerTicks := s.timerTarget }) (hraise (s.setIo 0x05 _) _ 2)
  · have hnone : s.catchUp = s := if_neg hdue
    rw [hnone]
    exact if_neg hdue

theorem afterLoad_atFetch (s : State) (a : Word) : s.atFetch.afterLoad a = { s.afterLoad a with opPc := s.pc } := by
  by_cases ha : a = 0xFF05
  · subst ha
    exact catchUp_atFetch s
  · rw [afterLoad_of_ne _ a ha, afterLoad_of_ne s a ha]
    rfl

/-- The fetch of a one-byte instruction is the read of its opcode: past it, PC and the halt bug go by R81. -/
theorem afterInstr_of_length_one {s : State} (h : instrLength s.opcode = 1) :
    s.afterInstr = { s.afterLoad s.pc with
      opPc := s.pc, haltBug := false, pc := if s.haltBug then s.pc else s.pc + 1 } := by
  have hfetch : s.afterInstr = s.atFetch.afterFetch := by rw [State.afterInstr, h]; rfl
  have hload : s.atFetch.afterLoad s.atFetch.pc = _ := afterLoad_atFetch s s.pc
  rw [hfetch]
  cases hbug : s.haltBug
  · rw [afterFetch_of_not_haltBug (s := s.atFetch) hbug, hload]
    simp [State.atFetch, hbug]
  · rw [afterFetch_of_haltBug (s := s.atFetch) hbug, hload]
    simp

theorem instrLength_illegal {row : Byte × Instr} (h : row ∈ illegalRows) : instrLength row.1 = 1 := by
  revert row
  decide

/-- What `raise IllegalOpcode` leaves unchanged: every register, latch, byte of memory and unit (R207, R209). -/
theorem raiseIllegalOpcode_frame (s : State) (byte : Byte) :
    SameRegsBut [] s (s.raiseIllegalOpcode byte) ∧ SameMemory s (s.raiseIllegalOpcode byte) ∧
      SameUnits s (s.raiseIllegalOpcode byte) :=
  ⟨fun _ _ => rfl, ⟨fun _ => rfl, rfl, rfl, rfl, fun _ => rfl⟩, ⟨rfl, rfl, rfl, rfl, rfl⟩⟩

/-- A slot whose instruction raised the fault ends the iteration with no unit stepped (R204). -/
theorem afterSlot_raiseIllegalOpcode (s : State) (byte : Byte) :
    (s.raiseIllegalOpcode byte).afterSlot = .next { s.raiseIllegalOpcode byte with slot := 0 } := rfl

/-- The step of a running machine at an undefined opcode: the opcode's fetch, the fault, and the end of the iteration. -/
theorem step_of_illegal {s : State} {row : Byte × Instr} (h : row ∈ illegalRows) (hrun : s.running = true)
    (hop : s.opcode = row.1) :
    ∃ e, step s = .next { (s.afterInstr.withExit e).raiseIllegalOpcode row.1 with slot := 0 } := by
  have hi : s.fetched = row.2 := by rw [State.fetched, hop, decodeBytes_illegal h]
  refine ⟨if s.slot = 0 then s.exitIn.map (· - 1) else s.exitIn, ?_⟩
  rw [step_of_running hrun, State.executeOne, fetched_withExit, afterInstr_withExit, hi, exec_illegal h]
  exact afterSlot_raiseIllegalOpcode _ row.1

/-- Settles O11: `exec` raises the fault and nothing else; a step does so after the read of the opcode, whose only side
effect outside PC and the halt bug is that of the load. -/
theorem undefinedOpcodeFreezesTheMachine : Obligations.UndefinedOpcodeFreezesTheMachine := by
  intro s row hrow
  constructor
  · obtain ⟨hregs, hmem, hunits⟩ := raiseIllegalOpcode_frame s row.1
    exact ⟨_, exec_illegal hrow s, rfl, rfl, hregs, rfl, rfl, rfl, rfl, rfl, rfl, rfl, rfl, hmem, hunits⟩
  · intro hrun hop
    obtain ⟨e, hstep⟩ := step_of_illegal hrow hrun hop
    rw [afterInstr_of_length_one (hop ▸ instrLength_illegal hrow)] at hstep
    obtain ⟨hregs, hmem, hunits⟩ := raiseIllegalOpcode_frame (s.afterLoad s.pc) row.1
    refine ⟨_, hstep, rfl, ?hostOut, rfl, (sameRegsBut_afterLoad s s.pc).trans hregs, ?f, ?sp, ?clocks, ?ime, rfl,
      hmem, hunits⟩
    all_goals simp [State.raiseIllegalOpcode, State.withExit]

end Sys2Proof.Machine
end

section
/-! The timer: the divider, the catch-up, the accesses to its registers and the next overflow (60_exceptions R220 to
R228). -/

namespace Sys2Proof.Machine

/-! ## The divider (R220, R221) -/

theorem divider_toNat (s : State) : s.divider.toNat = (s.clocks - s.divBase) / 256 % 256 := by
  rw [State.divider, BitVec.toNat_ofNat, Nat.shiftRight_eq_div_pow]

/-- Settles O30: the write moves DIV's anchor to the present, after the timer's catch-up. -/
theorem dividerCountsFromItsWrite : Obligations.DividerCountsFromItsWrite := by
  intro s v
  refine ⟨divider_toNat s, s.writeDiv, rfl, fun n => ?_, ?_⟩
  · refine (divider_toNat { s.writeDiv with clocks := s.writeDiv.clocks + n }).trans ?_
    simp [State.writeDiv]
  · exact ⟨by simp [State.writeDiv], rfl, rfl, by simp [State.writeDiv]⟩

/-! ## The catch-up (R222) -/

/-- With no tick due, or the timer disabled, the catch-up does nothing. -/
theorem catchUp_of_not_due {s : State} (h : timerEnabled s.tac = false ∨ s.timerTarget ≤ s.timerTicks) :
    s.catchUp = s := by
  refine if_neg ?_
  obtain h | h := h
  · simp [h]
  · simp [Nat.not_lt.mpr h]

/-- What the catch-up of an enabled timer writes, with `n` ticks due; there may be none. -/
theorem catchUp_of_due {s : State} {n : Nat} (hon : timerEnabled s.tac = true)
    (hn : s.timerTarget = s.timerTicks + n) :
    s.catchUp.tima = (timerTicksFrom s.tma n s.tima).1 ∧
      s.catchUp.ifReg = (if (timerTicksFrom s.tma n s.tima).2 then withBit s.ifReg 2 true else s.ifReg) ∧
      s.catchUp.timerTicks = s.timerTarget := by
  cases n with
  | zero =>
    rw [catchUp_of_not_due (.inr hn.le)]
    exact ⟨rfl, rfl, hn.symm⟩
  | succ n =>
    have hdue : (timerEnabled s.tac && decide (s.timerTicks < s.timerTarget)) = true := by simp [hon, hn]
    have hcount : s.timerTarget - s.timerTicks = n + 1 := by omega
    have hcatch : s.catchUp = _ := if_pos hdue
    rw [hcount] at hcatch
    rw [hcatch]
    refine ⟨?tima, ?ifReg, rfl⟩
    case tima => exact (ioByte_raiseInterruptIf _ _ _ _).trans (by simp [ioByte_setIo])
    case ifReg => exact (ioByte_raiseInterruptIf _ _ _ _).trans (by simp [State.ifReg, ioByte_setIo])

/-- The catch-up of a state `u` that differs from `s` by one applied tick: the target, TMA and TAC are those of `s`. -/
theorem catchUp_of_ticked {s u : State} {n : Nat} (hon : timerEnabled s.tac = true)
    (hn : s.timerTarget = s.timerTicks + n + 1) (hio : ∀ o, o ≠ 0x05 → o ≠ 0x0F → u.ioByte o = s.ioByte o)
    (hclocks : u.clocks = s.clocks) (hbase : u.timerBase = s.timerBase) (hticks : u.timerTicks = s.timerTicks + 1) :
    u.catchUp.tima = (timerTicksFrom s.tma n u.tima).1 ∧
      u.catchUp.ifReg = (if (timerTicksFrom s.tma n u.tima).2 then withBit u.ifReg 2 true else u.ifReg) ∧
      u.catchUp.timerTicks = s.timerTarget := by
  have htac : u.tac = s.tac := hio 0x07 (by decide) (by decide)
  have htma : u.tma = s.tma := hio 0x06 (by decide) (by decide)
  have htarget : u.timerTarget = s.timerTarget := by rw [State.timerTarget, State.timerTarget, hclocks, hbase, htac]
  rw [← htma, ← htarget]
  exact catchUp_of_due (htac ▸ hon) (by omega)

/-- Settles O31: after one tick the target is the same and one tick fewer is due; the interrupt it may have raised stays
raised. -/
theorem catchUpTicksOneAtATime : Obligations.CatchUpTicksOneAtATime := by
  intro s
  refine ⟨catchUp_of_not_due, fun hon hdue u hu => ?_, ioByte_catchUp s, by simp, ?_⟩
  · obtain ⟨n, hn⟩ := Nat.exists_eq_add_of_lt hdue
    obtain ⟨htima, hif, hticks⟩ := catchUp_of_due (n := n + 1) hon hn
    rw [htima, hif, hticks, timerTicksFrom]
    split at hu
    · next hFF =>
      have hio (o : Nat) : u.ioByte o =
          if o = 0x0F then s.ifReg ||| 0x04 else if o = 0x05 then s.tma else s.ioByte o := by
        rw [hu]
        exact (ioByte_setIo _ _ _ _).trans (by rw [ioByte_setIo])
      obtain ⟨htima', hif', hticks'⟩ := catchUp_of_ticked (u := u) hon hn
        (fun o h5 hF => by rw [hio, if_neg hF, if_neg h5]) (by simp [hu]) (by simp [hu]) (by simp [hu])
      have hu5 : u.tima = s.tma := hio 0x05
      have huF : u.ifReg = s.ifReg ||| 0x04 := hio 0x0F
      rw [htima', hif', hticks', hu5, huF, if_pos hFF]
      simp [withBit, BitVec.or_assoc]
    · next hFF =>
      have hio (o : Nat) : u.ioByte o = if o = 0x05 then s.tima + 1 else s.ioByte o := by
        rw [hu]
        exact ioByte_setIo _ _ _ _
      obtain ⟨htima', hif', hticks'⟩ := catchUp_of_ticked (u := u) hon hn (fun o h5 _ => by rw [hio, if_neg h5])
        (by simp [hu]) (by simp [hu]) (by simp [hu])
      have hu5 : u.tima = s.tima + 1 := hio 0x05
      have huF : u.ifReg = s.ifReg := hio 0x0F
      rw [htima', hif', hticks', hu5, huF, if_neg hFF]
      exact ⟨rfl, rfl, rfl⟩
  · simp [sameRegsBut_nil_iff, SameLatches]

/-! ## The accesses to the timer's registers (R223 to R226) -/

/-- Settles O32: each access is the catch-up and then its own store. -/
theorem timerRegisterAccess : Obligations.TimerRegisterAccess := by
  intro s v
  refine ⟨rfl, rfl, ⟨s.writeTima v, rfl, ?_⟩, ⟨s.writeTma v, rfl, ?_⟩, ⟨s.writeTac v, rfl, ?_⟩⟩
  · simp [State.writeTima, State.tima, State.ifReg, ioByte_setIo]
  · simp [State.writeTma, State.tma, State.tima, State.ifReg, ioByte_setIo]
  · have hio (o : Nat) : (s.writeTac v).ioByte o = if o = 0x07 then v else s.catchUp.ioByte o := ioByte_setIo _ _ _ _
    exact ⟨hio 0x07, hio 0x05, hio 0x0F, rfl, rfl⟩

/-! ## The next overflow (R228) -/

/-- Ticks that stay within a byte do not overflow. -/
theorem timerTicksFrom_of_lt {tma tima : Byte} {n : Nat} (h : tima.toNat + n < 256) :
    (timerTicksFrom tma n tima).2 = false := by
  induction n generalizing tima with
  | zero => rfl
  | succ n ih =>
    rw [timerTicksFrom, if_neg (by bv_omega)]
    exact ih (by bv_omega)

/-- The tick that leaves the byte reloads TIMA from TMA. -/
theorem timerTicksFrom_of_eq {tma tima : Byte} {n : Nat} (h : tima.toNat + n = 256) :
    timerTicksFrom tma n tima = (tma, true) := by
  induction n generalizing tima with
  | zero => exact absurd tima.isLt (by omega)
  | succ n ih =>
    rw [timerTicksFrom]
    split
    · next hFF =>
      obtain rfl : n = 0 := by bv_omega
      rfl
    · next hFF => exact ih (by bv_omega)

/-- The timer's next overflow, as an equation on numbers: the ticks up to it fill the byte TIMA. -/
theorem timerNextOverflow_eq_some {s : State} {n : Nat} :
    s.timerNextOverflow = some n ↔
      timerEnabled s.tac = true ∧ s.timerBase + (s.timerTicks + 256 - s.tima.toNat) * 2 ^ timerShift s.tac = n := by
  simp [State.timerNextOverflow, Nat.shiftLeft_eq]

/-- What a catch-up at cycle `c` writes, with `k` ticks due there. -/
theorem catchUp_setClocks {s : State} {c k : Nat} (hon : timerEnabled s.tac = true)
    (hk : (c - s.timerBase) / 2 ^ timerShift s.tac = s.timerTicks + k) :
    (State.catchUp { s with clocks := c }).tima = (timerTicksFrom s.tma k s.tima).1 ∧
      (State.catchUp { s with clocks := c }).ifReg =
        if (timerTicksFrom s.tma k s.tima).2 then withBit s.ifReg 2 true else s.ifReg := by
  have htarget : { s with clocks := c }.timerTarget = s.timerTicks + k :=
    (Nat.shiftRight_eq_div_pow (c - s.timerBase) (timerShift s.tac)).trans hk
  obtain ⟨htima, hif, -⟩ := catchUp_of_due (s := { s with clocks := c }) hon htarget
  exact ⟨htima, hif⟩

/-- Settles O33: before the precomputed cycle the due ticks stay within TIMA, and at it the last of them overflows. -/
theorem nextOverflowIsExact : Obligations.NextOverflowIsExact := by
  intro s n hsome
  obtain ⟨hon, hn⟩ := timerNextOverflow_eq_some.mp hsome
  have htima := s.tima.isLt
  have hperiod : 0 < 2 ^ timerShift s.tac := Nat.two_pow_pos _
  refine ⟨fun c hc => ?before, ?exact⟩
  case before =>
    have hlt : (c - s.timerBase) / 2 ^ timerShift s.tac < s.timerTicks + 256 - s.tima.toNat := by
      have hpos : 0 < (s.timerTicks + 256 - s.tima.toNat) * 2 ^ timerShift s.tac := Nat.mul_pos (by omega) hperiod
      rw [Nat.div_lt_iff_lt_mul hperiod]
      omega
    obtain hnone | hdue := Nat.le_total ((c - s.timerBase) / 2 ^ timerShift s.tac) s.timerTicks
    · have hle : { s with clocks := c }.timerTarget ≤ s.timerTicks := (Nat.shiftRight_eq_div_pow _ _).trans_le hnone
      rw [catchUp_of_not_due (s := { s with clocks := c }) (.inr hle)]
      rfl
    · obtain ⟨k, hk⟩ := Nat.exists_eq_add_of_le hdue
      rw [(catchUp_setClocks hon hk).2, timerTicksFrom_of_lt (by omega)]
      rfl
  case exact =>
    have hk : (n - s.timerBase) / 2 ^ timerShift s.tac = s.timerTicks + (256 - s.tima.toNat) := by
      rw [← hn, Nat.add_sub_cancel_left, Nat.mul_div_cancel _ hperiod]
      omega
    obtain ⟨hreload, hif⟩ := catchUp_setClocks hon hk
    rw [hreload, hif, timerTicksFrom_of_eq (by omega)]
    exact ⟨rfl, by simp [withBit]⟩

end Sys2Proof.Machine
end

section
/-! The PPU: its step, the line comparator and its transitions (60_exceptions R229 to R238). -/

namespace Sys2Proof.Machine

/-! ## The step (R229) -/

@[simp] theorem enterPpu_nextTick (s : State) (p : PpuState) (n : Nat) :
    (s.enterPpu p n).nextTick = s.nextTick + n := rfl

@[simp] theorem extendPpu_nextTick (s : State) (n : Nat) : (s.extendPpu n).nextTick = s.nextTick + n := rfl

theorem ppuTransition_clocks (s : State) : s.ppuTransition.clocks = s.clocks := by simp

/-- Every transition moves the deadline on, by 56 cycles at the least. -/
theorem nextTick_lt_ppuTransition (s : State) : s.nextTick < s.ppuTransition.nextTick := by
  unfold State.ppuTransition
  split
  · simp [State.oamDeadline]
  · simp [State.vramDeadline]
  · unfold State.hblankDeadline
    dsimp only
    split
    · simp
    · simp
  · unfold State.vblankDeadline
    split
    · split
      · simp
      · simp [State.enterLcdOff]
    split
    · simp
    split
    · simp
    · simp
  · unfold State.lcdOffDeadline
    dsimp only
    split
    · simp
    · simp

/-- With the deadline ahead the loop does nothing, whatever its bound. -/
theorem ppuLoop_of_ahead {s : State} (h : s.clocks < s.nextTick) (n : Nat) : ppuLoop n s = s := by
  cases n with
  | zero => rfl
  | succ n => rw [ppuLoop, if_neg (Nat.not_le.mpr h)]

/-- With a bound that suffices the deadline lies ahead after the loop (log 18). -/
theorem clocks_lt_ppuLoop {n : Nat} {s : State} (h : s.clocks < s.nextTick + n) :
    s.clocks < (ppuLoop n s).nextTick := by
  induction n generalizing s with
  | zero => exact h
  | succ n ih =>
    have hmove := nextTick_lt_ppuTransition s
    rw [ppuLoop]
    split
    · simpa using ih (s := s.ppuTransition) (by rw [ppuTransition_clocks]; omega)
    · omega

/-- Two bounds that suffice give the same loop. -/
theorem ppuLoop_bound {n k : Nat} {s : State} (hn : s.clocks < s.nextTick + n) (hk : s.clocks < s.nextTick + k) :
    ppuLoop n s = ppuLoop k s := by
  induction n generalizing s k with
  | zero => rw [ppuLoop_of_ahead hn, ppuLoop_of_ahead hn]
  | succ n ih =>
    by_cases hdue : s.nextTick ≤ s.clocks
    · obtain ⟨k, rfl⟩ : ∃ j, k = j + 1 := Nat.exists_eq_succ_of_ne_zero (by omega)
      have hmove := nextTick_lt_ppuTransition s
      rw [ppuLoop, ppuLoop, if_pos hdue, if_pos hdue]
      exact ih (by rw [ppuTransition_clocks]; omega) (by rw [ppuTransition_clocks]; omega)
    · rw [ppuLoop_of_ahead (Nat.lt_of_not_le hdue), ppuLoop_of_ahead (Nat.lt_of_not_le hdue)]

/-- With the deadline passed the step is one transition and the step again. -/
theorem ppuStep_of_due {s : State} (h : s.nextTick ≤ s.clocks) : s.ppuStep = s.ppuTransition.ppuStep := by
  have hmove := nextTick_lt_ppuTransition s
  have hone : s.ppuStep = ppuLoop (s.clocks - s.nextTick) s.ppuTransition := by
    rw [State.ppuStep, Nat.sub_add_comm h, ppuLoop, if_pos h]
  rw [hone]
  exact ppuLoop_bound (by rw [ppuTransition_clocks]; omega) (by omega)

/-- Settles O34: the bound of the loop always suffices, since every transition moves the deadline on. -/
theorem ppuStepLeavesNoDeadlineBehind : Obligations.PpuStepLeavesNoDeadlineBehind := fun s =>
  ⟨by simp, clocks_lt_ppuLoop (by omega), ppuStep_of_due, fun h => ppuLoop_of_ahead h _⟩

/-! ## IF (R211) -/

/-- An interrupt raised on a condition is an OR into IF (R211). -/
theorem ifReg_raiseInterruptIf (s : State) (p : Bool) (k : Nat) :
    (s.raiseInterruptIf p k).ifReg = s.ifReg ||| (if p then 1#8 <<< k else 0) := by
  rw [State.ifReg, ioByte_raiseInterruptIf]
  cases p with
  | false => simp [State.ifReg]
  | true => simp [withBit]

/-- The same for the STAT interrupt, with its condition as a proposition. -/
theorem ifReg_raiseInterruptIf_iff (s : State) {p : Bool} {q : Prop} [Decidable q] (h : p = true ↔ q) :
    (s.raiseInterruptIf p 1).ifReg = if q then s.ifReg ||| 0x02 else s.ifReg := by
  rw [ifReg_raiseInterruptIf, if_congr h rfl rfl]
  split
  · rfl
  · exact BitVec.or_zero

theorem ifReg_raiseInterrupt (s : State) (k : Nat) : (s.raiseInterrupt k).ifReg = s.ifReg ||| 1#8 <<< k :=
  ifReg_raiseInterruptIf s true k

/-- What writes no byte of the I/O page keeps IF. -/
@[simp] theorem emit_ifReg (s : State) (ev : HostEvent) : (s.emit ev).ifReg = s.ifReg := rfl

@[simp] theorem extendPpu_ifReg (s : State) (n : Nat) : (s.extendPpu n).ifReg = s.ifReg := rfl

@[simp] theorem inputRefresh_ifReg (s : State) : s.inputRefresh.ifReg = s.ifReg := rfl

@[simp] theorem enterPpu_ifReg (s : State) (p : PpuState) (n : Nat) : (s.enterPpu p n).ifReg = s.ifReg :=
  ioByte_setIo s 0x41 0x0F _

/-! ## The line comparator (R230) -/

theorem stat_setLy (s : State) (v : Byte) : (s.setLy v).stat = withBit s.stat 2 (decide (v = s.lyc)) := by
  simp [State.setLy, State.stat, ioByte_raiseInterruptIf, ioByte_setIo]

/-- SetLY writes of STAT the comparator's signal alone (R230). -/
theorem getLsbD_stat_setLy (s : State) (v : Byte) (k : Nat) :
    (s.setLy v).stat.getLsbD k = if k = 2 then decide (v = s.lyc) else s.stat.getLsbD k := by
  rw [stat_setLy]
  by_cases hk : k < 8
  · exact getLsbD_withBit hk _ _ _
  · simp [BitVec.getLsbD_of_ge _ _ (Nat.le_of_not_lt hk), show k ≠ 2 by omega]

/-- The STAT interrupt of the line comparator (R230). -/
theorem ifReg_setLy (s : State) (v : Byte) :
    (s.setLy v).ifReg =
      if v = s.lyc ∧ s.stat.getLsbD 6 = true ∧ ¬ (s.stat.getLsbD 4 = true ∧ (v = 0 ∨ 144 < v.toNat))
      then s.ifReg ||| 0x02 else s.ifReg := by
  have hbefore : ((s.setIo 0x44 v).setIo 0x41 (withBit s.stat 2 (decide (v = s.lyc)))).ifReg = s.ifReg := by
    simp [State.ifReg, ioByte_setIo]
  refine (ifReg_raiseInterruptIf_iff _ ?_).trans (by rw [hbefore])
  simp only [State.statBit, Bool.and_eq_true, Bool.not_eq_true', ← Bool.not_eq_true, Bool.or_eq_true, decide_eq_true_eq,
    and_assoc]

/-- Settles O35: LY and STAT take one raw write each, and the interrupt is an OR into IF. -/
theorem setLyCompares : Obligations.SetLyCompares := by
  intro s v
  refine ⟨setLy_ly s v, getLsbD_stat_setLy s v 2, fun k _ hk => (getLsbD_stat_setLy s v k).trans (if_neg hk),
    ifReg_setLy s v, fun o hly hstat hif => ?_⟩
  exact (ioByte_raiseInterruptIf _ _ _ _).trans (by simp [ioByte_setIo, hly, hstat, hif])

/-! ## The checks of the STAT interrupt (R231 to R233) -/

/-- `t` has the line compare value and the interrupt enables of `s`: LYC and STAT[7:3]. -/
structure SameEnables (s t : State) : Prop where
  lyc : t.lyc = s.lyc
  statBit : ∀ k, 2 < k → t.stat.getLsbD k = s.stat.getLsbD k

namespace SameEnables

/-- The enables are bytes of the I/O page. -/
theorem of_io {s t : State} (h : t.io = s.io) : SameEnables s t where
  lyc := congrArg (Memory.read .io · 0x45) h
  statBit k _ := congrArg (fun io => (Memory.read .io io 0x41).getLsbD k) h

theorem trans {s t u : State} (h : SameEnables s t) (h' : SameEnables t u) : SameEnables s u :=
  ⟨h'.lyc.trans h.lyc, fun k hk => (h'.statBit k hk).trans (h.statBit k hk)⟩

/-- A PPU state's mode goes into STAT[1:0] alone (R229). -/
theorem enterPpu (s : State) (p : PpuState) (n : Nat) : SameEnables s (s.enterPpu p n) where
  lyc := ioByte_setIo s 0x41 0x45 _
  statBit k hk := by
    have hstat : (s.enterPpu p n).stat = (s.stat &&& 0xFC) ||| p.mode := ioByte_setIo s 0x41 0x41 _
    rw [hstat]
    by_cases hbyte : k < 8
    · have hmasks : (3#8).getLsbD k = false ∧ (0xFC : Byte).getLsbD k = true := by interval_cases k <;> decide
      rw [← mode_and_three, BitVec.getLsbD_or, BitVec.getLsbD_and, BitVec.getLsbD_and, hmasks.1, hmasks.2]
      simp
    · simp [BitVec.getLsbD_of_ge _ _ (Nat.le_of_not_lt hbyte)]

/-- The comparator's signal is STAT bit 2 (R230). -/
theorem setLy (s : State) (v : Byte) : SameEnables s (s.setLy v) where
  lyc := (ioByte_raiseInterruptIf _ _ _ _).trans (by simp [ioByte_setIo, State.lyc])
  statBit k hk := by rw [getLsbD_stat_setLy, if_neg (Nat.ne_of_gt hk)]

/-- Raising an interrupt writes IF only (R211). -/
theorem raiseInterrupt (s : State) (k : Nat) : SameEnables s (s.raiseInterrupt k) where
  lyc := (ioByte_raiseInterruptIf s true k 0x45).trans (if_neg (by decide))
  statBit j _ := by simp

variable {s t : State} (h : SameEnables s t)
include h

/-- The comparator decides by LYC and the enables alone. -/
theorem ifReg_setLy (hif : t.ifReg = s.ifReg) (v : Byte) : (t.setLy v).ifReg = (s.setLy v).ifReg := by
  rw [Machine.ifReg_setLy, Machine.ifReg_setLy, h.lyc, h.statBit 6 (by decide), h.statBit 4 (by decide), hif]

/-- The check on entering H-blank (R231). -/
theorem ifReg_hblankCheck (hly : t.ly = s.ly) :
    t.hblankCheck.ifReg =
      if s.stat.getLsbD 3 = true ∧ ¬ (s.stat.getLsbD 6 = true ∧ s.ly = s.lyc) then t.ifReg ||| 0x02 else t.ifReg := by
  refine ifReg_raiseInterruptIf_iff _ ?_
  simp only [State.statBit, h.lyc, h.statBit 3 (by decide), h.statBit 6 (by decide), hly, Bool.and_eq_true,
    Bool.not_eq_true', ← Bool.not_eq_true, decide_eq_true_eq]

/-- The interrupts on entering V-blank (R232). -/
theorem ifReg_vblankInterrupts :
    t.vblankInterrupts.ifReg = t.ifReg ||| 0x01 |||
      if s.stat.getLsbD 4 = true ∧ s.stat.getLsbD 3 = false ∧ ¬ (s.stat.getLsbD 6 = true ∧ s.lyc ≠ 144)
      then 0x02 else 0x00 := by
  have h' : SameEnables s (t.raiseInterrupt 0) := h.trans (.raiseInterrupt t 0)
  rw [State.vblankInterrupts, ifReg_raiseInterruptIf, ifReg_raiseInterrupt]
  refine congrArg _ (if_congr ?_ rfl rfl)
  simp only [State.statBit, h.lyc, h.statBit 3 (by decide), h.statBit 4 (by decide), h.statBit 6 (by decide),
    Bool.and_eq_true, Bool.not_eq_true', ← Bool.not_eq_true, decide_eq_true_eq, and_assoc]

/-- The check on entering OAM scan (R233). -/
theorem ifReg_oamCheck (prev : Option Byte) : (t.oamCheck prev).ifReg = t.ifReg ||| OamCheck s prev := by
  rw [State.oamCheck, ifReg_raiseInterruptIf]
  refine congrArg _ (if_congr ?_ rfl rfl)
  simp only [State.statBit, h.lyc, h.statBit 3 (by decide), h.statBit 5 (by decide), h.statBit 6 (by decide),
    Bool.and_eq_true, Bool.not_eq_true', ← Bool.not_eq_true, decide_eq_true_eq, and_assoc]

end SameEnables

/-! ## The transitions (R234 to R238) -/

@[simp] theorem inputRefresh_keys (s : State) : s.inputRefresh.keys = s.nextKeys := rfl

@[simp] theorem inputRefresh_stopped (s : State) :
    s.inputRefresh.stopped = (s.stopped && decide (s.nextKeys = 0)) := rfl

/-- The key state that the host supplies next goes by the inputs listed and the refreshes so far (log 6). -/
theorem nextKeys_congr {s t : State} (hin : t.keysIn = s.keysIn) (hseen : t.keysSeen = s.keysSeen) :
    t.nextKeys = s.nextKeys := by
  rw [State.nextKeys, State.nextKeys, hin, hseen]

/-- OAM scan ends (R234). -/
theorem oamDeadline_spec (s : State) :
    PpuEnters .vram 172 s s.oamDeadline ∧ s.oamDeadline.ly = s.ly ∧ s.oamDeadline.ifReg = s.ifReg ∧
      s.oamDeadline.hostOut = s.hostOut := by
  simp [PpuEnters, State.oamDeadline]

/-- The line is rendered and H-blank begins (R235). -/
theorem vramDeadline_spec (s : State) :
    PpuEnters .hblank 204 s s.vramDeadline ∧ s.vramDeadline.ly = s.ly ∧
      s.vramDeadline.hostOut = .renderLine s.ly :: s.hostOut ∧
      s.vramDeadline.ifReg =
        if s.stat.getLsbD 3 = true ∧ ¬ (s.stat.getLsbD 6 = true ∧ s.ly = s.lyc) then s.ifReg ||| 0x02 else s.ifReg := by
  have h : SameEnables s ((s.enterPpu .hblank 204).emit (.renderLine s.ly)) :=
    (SameEnables.enterPpu s .hblank 204).trans (.of_io rfl)
  rw [State.vramDeadline, h.ifReg_hblankCheck (by simp)]
  simp [PpuEnters]

/-- V-blank begins after line 143 (R236). -/
theorem hblankDeadline_last {s : State} (hly : s.ly = 143) :
    PpuEnters .vblank 456 s s.hblankDeadline ∧ s.hblankDeadline.ly = 144 ∧ s.hblankDeadline.keys = s.nextKeys ∧
      s.hblankDeadline.hostOut = .frameComplete :: s.hostOut ∧
      s.hblankDeadline.stopped = (s.stopped && decide (s.nextKeys = 0)) ∧
      s.hblankDeadline.ifReg = (s.setLy 144).ifReg ||| 0x01 |||
        if s.stat.getLsbD 4 = true ∧ s.stat.getLsbD 3 = false ∧ ¬ (s.stat.getLsbD 6 = true ∧ s.lyc ≠ 144)
        then 0x02 else 0x00 := by
  have hlast : s.hblankDeadline =
      ((((s.setLy 144).enterPpu .vblank 456).vblankInterrupts).emit .frameComplete).inputRefresh := by
    simp [State.hblankDeadline, hly]
  have h : SameEnables s ((s.setLy 144).enterPpu .vblank 456) := (SameEnables.setLy s 144).trans (.enterPpu _ _ _)
  have hkeys : ((((s.setLy 144).enterPpu .vblank 456).vblankInterrupts).emit .frameComplete).nextKeys = s.nextKeys :=
    nextKeys_congr (by simp) (by simp)
  rw [hlast]
  refine ⟨by simp [PpuEnters], by simp, hkeys, by simp, ?_, ?_⟩
  · rw [inputRefresh_stopped, hkeys]
    simp
  · rw [inputRefresh_ifReg, emit_ifReg, h.ifReg_vblankInterrupts, enterPpu_ifReg]

/-- The next visible line begins (R236). -/
theorem hblankDeadline_visible {s : State} (hly : s.ly ≠ 143) :
    PpuEnters .oam 80 s s.hblankDeadline ∧ s.hblankDeadline.ly = s.ly + 1 ∧ s.hblankDeadline.hostOut = s.hostOut ∧
      s.hblankDeadline.ifReg = (s.setLy (s.ly + 1)).ifReg ||| OamCheck s (some s.ly) := by
  have hline : s.ly + 1 ≠ 144 := by bv_omega
  have hnext : s.hblankDeadline = ((s.setLy (s.ly + 1)).enterPpu .oam 80).oamCheck (some s.ly) := by
    rw [State.hblankDeadline, if_neg hline, BitVec.add_sub_cancel]
  have h : SameEnables s ((s.setLy (s.ly + 1)).enterPpu .oam 80) := (SameEnables.setLy s _).trans (.enterPpu _ _ _)
  rw [hnext, h.ifReg_oamCheck]
  simp [PpuEnters]

/-- Inside V-blank each line follows the one before, and line 153 is cut short (R237). -/
theorem vblankDeadline_inside {s : State} (hly : s.ly ≠ 0) (hp : s.ppu = .vblank) :
    s.vblankDeadline.ppu = .vblank ∧ s.vblankDeadline.stat &&& 0x03 = s.stat &&& 0x03 ∧
      s.vblankDeadline.hostOut = s.hostOut ∧
      s.vblankDeadline.ly = (if s.ly = 153 then 0 else s.ly + 1) ∧
      s.vblankDeadline.ifReg = (s.setLy s.vblankDeadline.ly).ifReg ∧
      s.vblankDeadline.nextTick = s.nextTick + (if s.ly = 152 then 56 else if s.ly = 153 then 400 else 456) := by
  by_cases h152 : s.ly = 152
  · simp [State.vblankDeadline, h152, hp]
  by_cases h153 : s.ly = 153
  · simp [State.vblankDeadline, h153, hp]
  · have hnext : s.vblankDeadline = (s.setLy (s.ly + 1)).extendPpu 456 := by
      rw [State.vblankDeadline, if_neg hly, if_neg h152, if_neg h153]
    rw [hnext, if_neg h152, if_neg h153, if_neg h153]
    simp [hp]

/-- With the display on, a new frame begins after the tail of V-blank (R237). -/
theorem vblankDeadline_frame {s : State} (hly : s.ly = 0) (hon : s.lcdc.getLsbD 7 = true) :
    PpuEnters .oam 80 s s.vblankDeadline ∧ s.vblankDeadline.ly = 0 ∧ s.vblankDeadline.hostOut = s.hostOut ∧
      s.vblankDeadline.ifReg = s.ifReg ||| OamCheck s (some 153) := by
  rw [State.vblankDeadline, if_pos hly, State.displayOn, if_pos hon, (SameEnables.enterPpu s .oam 80).ifReg_oamCheck]
  simp [PpuEnters, hly]

/-- With the display off, it goes dark there (R238). -/
theorem vblankDeadline_off {s : State} (hly : s.ly = 0) (hoff : s.lcdc.getLsbD 7 = false) :
    PpuEnters .lcdOff 456 s s.vblankDeadline ∧ s.vblankDeadline.ly = 0 ∧
      s.vblankDeadline.hostOut = .blankFrame :: s.hostOut ∧ s.vblankDeadline.ifReg = s.ifReg := by
  rw [State.vblankDeadline, if_pos hly, State.displayOn, if_neg (Bool.eq_false_iff.mp hoff)]
  simp [PpuEnters, State.enterLcdOff, hly]

/-- With the display off the input is refreshed, and a display switched on begins a frame (R238). -/
theorem lcdOffDeadline_spec {s : State} (hp : s.ppu = .lcdOff) :
    s.lcdOffDeadline.keys = s.nextKeys ∧ s.lcdOffDeadline.stopped = (s.stopped && decide (s.nextKeys = 0)) ∧
      s.lcdOffDeadline.hostOut = s.hostOut ∧
      if s.lcdc.getLsbD 7 = true then
        PpuEnters .oam 80 s s.lcdOffDeadline ∧ s.lcdOffDeadline.ly = 0 ∧
          s.lcdOffDeadline.ifReg = (s.setLy 0).ifReg ||| OamCheck s none
      else
        s.lcdOffDeadline.ppu = .lcdOff ∧ s.lcdOffDeadline.nextTick = s.nextTick + 456 ∧ s.lcdOffDeadline.ly = s.ly ∧
          s.lcdOffDeadline.ifReg = s.ifReg := by
  have hdisplay : s.inputRefresh.displayOn = s.lcdc.getLsbD 7 := rfl
  rw [State.lcdOffDeadline, hdisplay]
  split
  · have henter : SameEnables s (s.inputRefresh.enterPpu .oam 0) :=
      .trans (t := s.inputRefresh) (.of_io rfl) (.enterPpu _ _ _)
    have h : SameEnables s (((s.inputRefresh.enterPpu .oam 0).setLy 0).extendPpu 80) :=
      (henter.trans (.setLy _ 0)).trans (.of_io rfl)
    rw [h.ifReg_oamCheck, extendPpu_ifReg, henter.ifReg_setLy (by simp)]
    simp [PpuEnters]
  · simp [hp]

/-- Settles O36: one transition for each state of the PPU. -/
theorem ppuTransitions : Obligations.PpuTransitions := by
  rintro s t rfl
  refine ⟨fun hp => ?_, fun hp => ?_, fun hp hly => ?_, fun hp hly => ?_, fun hp hly => ?_, fun hp hly hon => ?_,
    fun hp hly hoff => ?_, fun hp => ?_⟩
  all_goals rw [State.ppuTransition, hp]
  · exact oamDeadline_spec s
  · exact vramDeadline_spec s
  · exact hblankDeadline_last hly
  · exact hblankDeadline_visible hly
  · exact vblankDeadline_inside hly hp
  · exact vblankDeadline_frame hly hon
  · exact vblankDeadline_off hly hoff
  · exact lcdOffDeadline_spec hp

end Sys2Proof.Machine
end

section
/-! The interrupt step (60_exceptions R212 to R217). -/

namespace Sys2Proof.Machine

/-! ## The pending sources (R212, R214) -/

/-- Source `k` is pending if it is enabled and requested (R212). -/
theorem getLsbD_pending (s : State) {k : Nat} (hk : k < 5) :
    s.pending.getLsbD k = true ↔ s.ie.getLsbD k = true ∧ s.ifReg.getLsbD k = true := by
  have hmask : (0x1F : Byte).getLsbD k = true := by interval_cases k <;> decide
  rw [State.pending, BitVec.getLsbD_and, BitVec.getLsbD_and, hmask, Bool.and_true, Bool.and_eq_true]

/-- There are five sources: with none of them pending, no bit of `pending` is set. -/
theorem pending_eq_zero {s : State} (h : ∀ k, k < 5 → ¬ (s.ie.getLsbD k = true ∧ s.ifReg.getLsbD k = true)) :
    s.pending = 0 := by
  refine BitVec.eq_of_getLsbD_eq fun k hbyte => Eq.trans ?_ BitVec.getLsbD_zero.symm
  by_cases hk : k < 5
  · exact Bool.eq_false_iff.mpr fun hset => h k hk ((getLsbD_pending s hk).mp hset)
  · have hmask : (0x1F#5).getLsbD k = false := BitVec.getLsbD_of_ge _ _ (Nat.le_of_not_lt hk)
    rw [State.pending, BitVec.getLsbD_and, show (0x1F : Byte).getLsbD k = false from hmask, Bool.and_false]

theorem pending_ne_zero {s : State} {k : Nat} (hset : s.pending.getLsbD k = true) : s.pending ≠ 0 := by
  intro h
  simp [h] at hset

/-- The lowest set bit is the one with none set below it (R214). -/
theorem lowestSource_eq {p : Byte} {k : Nat} (hk : k < 5) (hset : p.getLsbD k = true)
    (hlow : ∀ j, j < k → p.getLsbD j = false) : lowestSource p = k := by
  have hclear {j : Nat} (hj : j < k) : ¬ p.getLsbD j = true := Bool.eq_false_iff.mp (hlow j hj)
  unfold lowestSource
  interval_cases k
  · rw [if_pos hset]
  · rw [if_neg (hclear (by decide)), if_pos hset]
  · rw [if_neg (hclear (by decide)), if_neg (hclear (by decide)), if_pos hset]
  · rw [if_neg (hclear (by decide)), if_neg (hclear (by decide)), if_neg (hclear (by decide)), if_pos hset]
  · rw [if_neg (hclear (by decide)), if_neg (hclear (by decide)), if_neg (hclear (by decide)),
      if_neg (hclear (by decide))]

/-! ## The service (R214, R217) -/

/-- A byte store with another CPU (R56). -/
theorem store_withCpu_next {s t : State} (u : State) {a : Word} {v : Byte} (h : s.store a v = .next t) :
    (s.withCpu u).store a v = .next (t.withCpu u) := by
  rw [store_withCpu, h]
  rfl

/-- A push from its two byte stores, which do not look at the CPU `u` that pushes (R62). -/
theorem push_withCpu_of_stores {s m t u : State} {v : Word} (hhigh : s.store (u.sp - 1) (hiByte v) = .next m)
    (hlow : m.store (u.sp - 2) (loByte v) = .next t) :
    (s.withCpu u).push v = .next { t.withCpu u with sp := u.sp - 2 } := by
  rw [push_eq]
  refine seq_eq_next.mpr ⟨m.withCpu u, store_withCpu_next u hhigh, ?_⟩
  exact seq_eq_next.mpr ⟨t.withCpu u, store_withCpu_next u hlow, rfl⟩

/-- The service of source `k` from its two byte stores, which do not look at the latches. -/
theorem serviceInterrupt_of_stores {s m t : State} {k : Nat}
    (hhigh : (s.setIo 0x0F (withBit s.ifReg k false)).store (s.sp - 1) (hiByte s.pc) = .next m)
    (hlow : m.store (s.sp - 2) (loByte s.pc) = .next t) :
    State.serviceInterrupt { s with halted := false } k = .next
      { t with sp := s.sp - 2, pc := interruptVector k, ime := false, halted := false, clocks := s.clocks + 20 } := by
  have hpush := push_withCpu_of_stores (u := { s with halted := false, ime := false }) hhigh hlow
  refine seq_eq_next.mpr ⟨_, hpush, ?_⟩
  rw [store_next hlow, store_next hhigh]
  rfl

/-- Settles O37: the pending sources decide between the three cases, and the service is two byte stores. -/
theorem interruptStep : Obligations.InterruptStep := by
  intro s
  refine ⟨fun h => if_pos (pending_eq_zero h), ?wake, ?service, Answers.interruptStep⟩
  case wake =>
    intro k hk hie hif hime
    have hpending := pending_ne_zero ((getLsbD_pending s hk).mpr ⟨hie, hif⟩)
    rw [State.interruptStep, if_neg hpending, hime]
    rfl
  case service =>
    intro k m t hime hk hie hif hlowest hhigh hlow
    have hset := (getLsbD_pending s hk).mpr ⟨hie, hif⟩
    have hsource : lowestSource s.pending = k := lowestSource_eq hk hset fun j hj =>
      Bool.eq_false_iff.mpr fun hj' => hlowest j hj ((getLsbD_pending s (hj.trans hk)).mp hj')
    rw [State.interruptStep, if_neg (pending_ne_zero hset), if_pos hime, hsource]
    exact serviceInterrupt_of_stores hhigh hlow

end Sys2Proof.Machine
end

section
/-! The main loop: the iteration of an idle CPU, and when a step faults (60_exceptions R204, R206, R240; 10_state R43).
-/

namespace Sys2Proof.Machine

/-! ## The three kinds of step (R43, R204, R206) -/

theorem exitDue_eq_false_iff (s : State) : s.exitDue = false ↔ ¬ (s.slot = 0 ∧ s.exitIn = some 0) := by
  simp [State.exitDue]

theorem step_of_exit {s : State} (hslot : s.slot = 0) (hexit : s.exitIn = some 0) : step s = .fault .hostExit :=
  if_pos ⟨hslot, hexit⟩

theorem step_of_fault {s : State} {f : IllegalOpcode} (hexit : s.exitDue = false) (hfault : s.fault = some f) :
    step s = .fault (.illegalOpcode f.pc f.byte) := by
  rw [step, State.mainStep, if_neg ((exitDue_eq_false_iff s).mp hexit), hfault]

/-- Past the two stops of `step`, of the exit request and of a recorded fault, a step is one slot of the CPU. -/
theorem step_of_not_due {s : State} (hexit : s.exitDue = false) (hfault : s.fault = none) :
    step s = s.atTop.cpuSlot := by
  rw [step, State.mainStep, if_neg ((exitDue_eq_false_iff s).mp hexit), hfault]

/-! ## The iteration of an idle CPU (R204, R240) -/

/-- At the top of an iteration a halted or stopped CPU refreshes its input (R204, R241). -/
theorem atTop_of_idle {s : State} (hslot : s.slot = 0) (hidle : (s.halted || s.stopped) = true) :
    s.atTop = (s.withExit (s.exitIn.map (· - 1))).inputRefresh := by
  rw [State.atTop, if_pos hslot]
  exact if_pos hidle

/-- The idle advance goes to the earlier of the PPU's deadline and the timer's next overflow, never back (R240). -/
theorem idleAdvance_eq {s : State} {wake : Nat} (hoff : timerEnabled s.tac = false → wake = s.nextTick)
    (hon : timerEnabled s.tac = true →
      wake = min s.nextTick (s.timerBase + (s.timerTicks + 256 - s.tima.toNat) * 2 ^ timerShift s.tac)) :
    s.idleAdvance = { s with clocks := max s.clocks wake } := by
  cases h : timerEnabled s.tac with
  | false => simp [State.idleAdvance, State.timerNextOverflow, h, hoff h]
  | true => rw [State.idleAdvance, timerNextOverflow_eq_some.mpr ⟨h, rfl⟩, hon h]

/-- An idle CPU at the top of an iteration advances time and ends the iteration (R240). -/
theorem cpuSlot_of_idle {s : State} (hslot : s.slot = 0) (hidle : (s.halted || s.stopped) = true) :
    s.cpuSlot = s.idleAdvance.endIteration := by
  rw [State.cpuSlot, if_pos hidle, if_pos hslot]

/-- The step of a CPU that is idle before and after the input refresh (R204). -/
theorem step_of_idle {s : State} (hexit : s.exitDue = false) (hfault : s.fault = none) (hslot : s.slot = 0)
    (hbefore : (s.halted || s.stopped) = true) (hafter : (s.halted || s.inputRefresh.stopped) = true) :
    step s = (s.withExit (s.exitIn.map (· - 1))).inputRefresh.idleAdvance.endIteration := by
  rw [step_of_not_due hexit hfault, atTop_of_idle hslot hbefore]
  exact cpuSlot_of_idle hslot hafter

/-- The end of an iteration that is one step: the PPU, timer and interrupt steps (R204). -/
theorem endIteration_of_top {s : State} (hslot : s.slot = 0) :
    s.endIteration = (s.ppuStep.catchUp).interruptStep := by
  have hsame : { s with slot := 0 } = s := by rw [← hslot]
  rw [State.endIteration, hsame]
  rfl

/-- Settles O8: the input refresh leaves the CPU idle, and touches neither the timer nor the PPU's deadline. -/
theorem idleCpuAdvancesTime : Obligations.IdleCpuAdvancesTime := by
  intro s wake hexit hfault hslot hidle hoff hon
  have hadvance := idleAdvance_eq (s := (s.withExit (s.exitIn.map (· - 1))).inputRefresh) hoff hon
  obtain ⟨hbefore, hafter⟩ : (s.halted || s.stopped) = true ∧ (s.halted || s.inputRefresh.stopped) = true := by
    obtain h | ⟨h, hkeys⟩ := hidle
    · simp [h]
    · simp [h, hkeys]
  rw [step_of_idle hexit hfault hslot hbefore hafter, hadvance]
  exact endIteration_of_top hslot

/-! ## When a step faults (R43, R206) -/

/-- `r` is no fault. -/
def NoFault (r : Result) : Prop := ∀ f, r ≠ .fault f

namespace NoFault

theorem next (s : State) : NoFault (.next s) := by
  rintro f ⟨⟩

theorem store (s : State) (a : Word) (v : Byte) : NoFault (s.store a v) := store_ne_fault s a v

theorem seq {r : Result} {k : State → Result} (hr : NoFault r) (hk : ∀ u, NoFault (k u)) : NoFault (seq r k) :=
  seq_ne_fault hr hk

/-- An operation that does not fault, and then an update of the state. -/
theorem andThen {r : Result} (hr : NoFault r) (g : State → State) : NoFault (Machine.seq r fun u => .next (g u)) :=
  hr.seq fun u => next (g u)

theorem ite {p : Prop} [Decidable p] {r r' : Result} (h : NoFault r) (h' : NoFault r') :
    NoFault (if p then r else r') := by
  split <;> assumption

theorem push (s : State) (v : Word) : NoFault (s.push v) := (store _ _ _).seq fun _ => store _ _ _

/-- No instruction that the decoder answers faults: the undefined opcodes answer a next state, with the fault recorded
(R203), and of the others those that store go by the store. -/
theorem exec {i : Instr} (hi : Decoded i) (s : State) : NoFault (exec i s) := by
  cases hi with
  | illegal hrow => rw [exec_illegal hrow]; exact next _
  | ldRegReg dst r => rw [exec_ldRegReg]; exact next _
  | ldRegImm n r => rw [exec_ldRegImm]; exact next _
  | ldRegMem r => rw [exec_ldRegMem]; exact next _
  | ldMemReg r => rw [exec_ldMemReg]; exact andThen (store _ _ _) _
  | ld_mhl_n n => exact andThen (store _ _ _) _
  | ld_mbc_a => exact andThen (store _ _ _) _
  | ld_mde_a => exact andThen (store _ _ _) _
  | ld_mhli_a => exact andThen (store _ _ _) _
  | ld_mhld_a => exact andThen (store _ _ _) _
  | ldh_mn_a n => exact andThen (store _ _ _) _
  | ld_mc_a => exact andThen (store _ _ _) _
  | ld_mnn_a nn => exact andThen (store _ _ _) _
  | ld_mnn_sp nn => exact andThen ((store _ _ _).seq fun _ => store _ _ _) _
  | ldPairImm nn r => rw [exec_ldPairImm]; exact next _
  | push q => rw [exec_push]; exact andThen (push _ _) _
  | pop q => rw [exec_pop]; exact next _
  | aluReg op r => rw [exec_aluReg]; exact next _
  | aluMem op => rw [exec_aluMem]; exact next _
  | aluImm n op => rw [exec_aluImm]; exact next _
  | incReg r => rw [exec_incReg]; exact next _
  | decReg r => rw [exec_decReg]; exact next _
  | inc_mhl => exact andThen (store _ _ _) _
  | dec_mhl => exact andThen (store _ _ _) _
  | incPair r => rw [exec_incPair]; exact next _
  | decPair r => rw [exec_decPair]; exact next _
  | addHl r => rw [exec_addHl]; exact next _
  | shiftReg op r => rw [exec_shiftReg]; exact next _
  | shiftMem op => rw [exec_shiftMem]; exact andThen (store _ _ _) _
  | bitReg k r => rw [exec_bitReg]; exact next _
  | bitMem k => rw [exec_bitMem]; exact next _
  | resReg k r => rw [exec_resReg]; exact next _
  | resMem k => rw [exec_resMem]; exact andThen (store _ _ _) _
  | setReg k r => rw [exec_setReg]; exact next _
  | setMem k => rw [exec_setMem]; exact andThen (store _ _ _) _
  | jrIf e cc => rw [exec_jrIf]; exact ite (next _) (next _)
  | jpIf nn cc => rw [exec_jpIf]; exact ite (next _) (next _)
  | call_nn nn => exact andThen (push _ _) _
  | callIf nn cc => rw [exec_callIf]; exact ite (andThen (push _ _) _) (next _)
  | retIf cc => rw [exec_retIf]; exact ite (next _) (next _)
  | rst t => rw [exec_rst]; exact andThen (push _ _) _
  | _ => exact next _

theorem interruptStep (s : State) : NoFault s.interruptStep :=
  ite (next _) (ite (andThen (push _ _) _) (next _))

theorem afterSlot (s : State) : NoFault s.afterSlot := ite (next _) (ite (interruptStep _) (next _))

theorem cpuSlot (s : State) : NoFault s.cpuSlot :=
  ite (interruptStep _) (seq (exec (decoded_decodeBytes _ _ _) _) afterSlot)

end NoFault

/-- Settles O9: past the two stops of `step`, nothing in a slot faults. -/
theorem faultsExactlyWhenTold : Obligations.FaultsExactlyWhenTold := by
  refine ⟨fun s => step_of_exit, fun s f => step_of_fault, fun s g hg => ?_⟩
  cases hexit : s.exitDue with
  | true =>
    obtain ⟨hslot, hin⟩ : s.slot = 0 ∧ s.exitIn = some 0 := by simpa [State.exitDue] using hexit
    cases (step_of_exit hslot hin).symm.trans hg
    exact .inl ⟨rfl, hslot, hin⟩
  | false =>
    cases hfault : s.fault with
    | some f =>
      cases (step_of_fault hexit hfault).symm.trans hg
      exact .inr ⟨f, rfl, rfl⟩
    | none =>
      rw [step_of_not_due hexit hfault] at hg
      exact absurd hg (NoFault.cpuSlot _ g)

end Sys2Proof.Machine
end
